-- ==== Sys2Proof/Word.lean ====
section
/-! DEFINITION. The word types: bits, bytes, and the raw contents an operation is recognised from (30_encoding.md R90,
10_state.md R34).  A sample index, the absolute position of a sample in a trace, is an unbounded natural number
(20_memory.md R65; log 6). -/

namespace Sys2Proof

/-- A logic level or a sampled bit: high is 1, low is 0 (00_scope.md R10). -/
abbrev Bit := BitVec 1

/-- Eight window bits, bit 0 the newest (00_scope.md R9). -/
abbrev Byte := BitVec 8

/-- What an operation or a format is recognised from, as raw field values: the contents of a window under its format
(30_encoding.md R90, R92 to R99), the fields of an output record (R101, R105, R106), or the PHASE code
(10_state.md R34).  Operations without a bit encoding have no word (R110). -/
inductive Word where
  /-- `WIN[7:0]`, formats RESET8 and REQ8. -/
  | window (b : Byte)
  /-- ACKW, format ACK3. -/
  | ack (v : BitVec 3)
  /-- DATW, format DATA33, with TT: the two rows of the format are told apart by TT, not by bits. -/
  | data (tt : Bit) (v : BitVec 33)
  /-- Format TURN: no bits. -/
  | turn
  /-- Format FRAME, its five fields. -/
  | frame (type : BitVec 3) (payload : BitVec 64) (startSample endSample : Nat) (flags : BitVec 8)
  /-- Format MARK, its three fields. -/
  | mark (sampleIndex : Nat) (kind : BitVec 2) (channel : Bit)
  /-- Format PROG, its one field. -/
  | prog (sampleIndex : Nat)
  /-- The PHASE code, which selects a step. -/
  | phase (code : BitVec 4)
  deriving DecidableEq, Repr

end Sys2Proof
end

