-- ==== Sys2Proof/Config.lean ====
section
/-! DEFINITION. What is fixed for the machine: the document's literals (00_scope.md R6) and the parameters the spec decides
(00_scope.md R7), and the one free value. -/

namespace Sys2Proof.Config

/-- WIN_CAP, the capacity in bits of WIN, at which WCNT saturates (R6). -/
abbrev winCap : Nat := 32

/-- MATCH_W, the number of bits that must have been pushed before a pattern is tested (R6). -/
abbrev matchWidth : Nat := 8

/-- RESET_MATCH (R6). -/
abbrev resetMatch : Byte := 0x00#8

/-- RESET_MASK (R6). -/
abbrev resetMask : Byte := 0xFF#8

/-- REQ_MATCH (R6). -/
abbrev reqMatch : Byte := 0x81#8

/-- REQ_MASK (R6). -/
abbrev reqMask : Byte := 0x83#8

/-- ACK_W, the bits of an acknowledge sub-frame (R6). -/
abbrev ackWidth : Nat := 3

/-- DATA_W, the bits of a data sub-frame (R6). -/
abbrev dataWidth : Nat := 33

/-- REQ_PAR_HI, the top bit of the Request parity span (R6). -/
abbrev reqParHi : Nat := 6

/-- REQ_PAR_LO, the bottom bit of the Request parity span (R6). -/
abbrev reqParLo : Nat := 2

/-- START_SAMPLE, where both cursors stand after reset (R7, decision D2). -/
abbrev startSample : Nat := 0

/-- SLAVE_MIRRORED: whether ADV_SLAVE takes the mirrored reading that decision D9 rejects (default false; log 7). -/
abbrev slaveMirrored : Bool := false

/-- PARITY(v, hi, lo) over a span with hi < lo: a free value.  R154 gives the operation for hi >= lo and states no result
outside; it is a pure function, so the value depends on the operands alone (41_window_match_parity.md R154; DESIGN CHOICE,
log 5). -/
opaque emptySpanParity (v hi lo : Nat) : Bit

end Sys2Proof.Config
end

