-- ==== Sys2Proof/Syntax.lean ====
section
/-! DEFINITION. The names and records of the spec, and `Instr`: one constructor per row of spec/opcode_table.json
(00_scope.md R8). -/

namespace Sys2Proof

/-- The five frame types (30_encoding.md R102). -/
inductive FrameType where
  | reset | request | ack | read | write
  deriving DecidableEq, Repr

/-- The kinds of annotation record (30_encoding.md R105). -/
inductive MarkKind where
  | masterSample | slaveSample | parityError
  deriving DecidableEq, Repr

/-- The channel an annotation stands on: the clock line or the data line (30_encoding.md R105). -/
inductive Channel where
  | clk | dio
  deriving DecidableEq, Repr

/-- TT, the transaction type (10_state.md R33). -/
inductive TransType where
  | write | read
  deriving DecidableEq, Repr

/-- PHASE, the control state: eleven values (10_state.md R34). -/
inductive Phase where
  | scan | resetClose | reqClose | turn1 | ack | ackClose | turn2 | data | dataClose | turn3 | halted
  deriving DecidableEq, Repr

/-- HCAUSE, the halt cause (10_state.md R35). -/
inductive HCause where
  | none | traceExhausted | stopped
  deriving DecidableEq, Repr

/-- The two cursors, as operand of LEVEL (40_cursor_ops.md R133). -/
inductive CursorName where
  | clk | dio
  deriving DecidableEq, Repr

/-- The two sub-frame windows, as operand X of SUB_SHIFT; X fixes n, 3 for ACKW and 33 for DATW
(41_window_match_parity.md R155). -/
inductive SubWindow where
  | ackw | datw
  deriving DecidableEq, Repr

/-- A Frame record (30_encoding.md R101). -/
structure FrameRec where
  type : FrameType
  payload : BitVec 64
  startSample : Nat
  endSample : Nat
  flags : BitVec 8
  deriving DecidableEq, Repr

/-- An annotation record (30_encoding.md R105). -/
structure MarkRec where
  sampleIndex : Nat
  kind : MarkKind
  channel : Channel
  deriving DecidableEq, Repr

/-- The operations and formats of the block, one constructor per row of spec/opcode_table.json, in the table's order. -/
inductive Instr where
  /-- RESET: the Reset pattern (R92). -/
  | reset
  /-- REQUEST.R: a Request byte with RnW = 1 (R95). -/
  | requestR (apndp addr3 addr2 par : Bit)
  /-- REQUEST.W: a Request byte with RnW = 0 (R95). -/
  | requestW (apndp addr3 addr2 par : Bit)
  /-- NOFRAME: a low byte that matches neither pattern (R107). -/
  | noframe (b : Byte)
  /-- ACK.OK: acknowledge value 1 (R98). -/
  | ackOk
  /-- ACK.WAIT: acknowledge value 2 (R98). -/
  | ackWait
  /-- ACK.FAULT: acknowledge value 4 (R98). -/
  | ackFault
  /-- ACK.OTHER: the acknowledge values 0, 3, 5, 6, 7 (R98). -/
  | ackOther (v : BitVec 3)
  /-- DATA.R: a data sub-frame of a Read (R99). -/
  | dataR (d : BitVec 32) (par : Bit)
  /-- DATA.W: a data sub-frame of a Write (R99). -/
  | dataW (d : BitVec 32) (par : Bit)
  /-- TURN: one turnaround (R100). -/
  | turn
  /-- FRAME: a record for the frame sink (R101). -/
  | frame (r : FrameRec)
  /-- MARK: a record for the annotation sink (R105). -/
  | mark (m : MarkRec)
  /-- PROG: a value for the progress sink (R106). -/
  | prog (s : Nat)
  /-- NEXT_EDGE (R131). -/
  | nextEdge
  /-- GOTO_ABS(s) (R132). -/
  | gotoAbs (s : Nat)
  /-- LEVEL(C) (R133). -/
  | level (c : CursorName)
  /-- ADV_MASTER (R134). -/
  | advMaster
  /-- ADV_SLAVE (R135). -/
  | advSlave
  /-- ADV_EDGE (R136). -/
  | advEdge
  /-- ADV_TURN (R137). -/
  | advTurn
  /-- WIN_PUSH(b, s) (R150). -/
  | winPush (b : Bit) (s : Nat)
  /-- WIN_CLEAR (R151). -/
  | winClear
  /-- SUB_SHIFT(X, n, b), n being the width of X (R155). -/
  | subShift (x : SubWindow) (b : Bit)
  /-- MATCH_RESET (R152). -/
  | matchReset
  /-- MATCH_REQUEST (R153). -/
  | matchRequest
  /-- PARITY(v, hi, lo) (R154). -/
  | parity (v hi lo : Nat)
  /-- STEP (R170). -/
  | step
  /-- SCAN (R171). -/
  | scan
  /-- RESET_CLOSE (R172). -/
  | resetClose
  /-- REQ_CLOSE (R173). -/
  | reqClose
  /-- EMIT_FRAME(type, payload, start, end) (R174). -/
  | emitFrame (type : FrameType) (payload : BitVec 64) (startSample endSample : Nat)
  /-- MARK_OP: MARK(index, kind, channel) (R175). -/
  | markOp (index : Nat) (kind : MarkKind) (channel : Channel)
  /-- REPORT_PROGRESS(s) (R176). -/
  | reportProgress (s : Nat)
  /-- DECODE (R178). -/
  | decode
  /-- TURN1 (R191). -/
  | turn1
  /-- ACK (R192). -/
  | ack
  /-- ACK_CLOSE (R193). -/
  | ackClose
  /-- TURN2 (R194). -/
  | turn2
  /-- DATA (R195). -/
  | data
  /-- DATA_CLOSE (R196). -/
  | dataClose
  /-- TURN3 (R197). -/
  | turn3
  /-- DISPATCH (R201). -/
  | dispatch
  deriving DecidableEq, Repr

end Sys2Proof
end

