-- ==== Sys2Proof/WellFormed.lean ====
section
/-! DEFINITION. Which operand values the spec admits for each operation and record. -/

namespace Sys2Proof

/-- Whether a payload fits its frame type: 8, 8, 3, 33 and 33 bits; a Reset's byte is 0x00 and a Request's byte matches
the Request-start pattern (30_encoding.md R92, R93, R103). -/
def FrameType.admits (t : FrameType) (p : BitVec 64) : Bool :=
  match t with
  | .reset => p == 0#64
  | .request => p == (p.setWidth 8).setWidth 64 && p.setWidth 8 &&& Config.reqMask == Config.reqMatch
  | .ack => p == (p.setWidth 3).setWidth 64
  | .read => p == (p.setWidth 33).setWidth 64
  | .write => p == (p.setWidth 33).setWidth 64

/-- A Frame record the block can emit: payload within its type, start <= end, flags 0
(30_encoding.md R103, R104; 42_scan_reset_request.md R174). -/
def FrameRec.wf (r : FrameRec) : Bool :=
  r.type.admits r.payload && decide (r.startSample ≤ r.endSample) && r.flags == 0#8

/-- The channel each kind of marker stands on: sample markers on CLK, parity markers on DIO (30_encoding.md R105). -/
def MarkKind.channel : MarkKind → Channel
  | .masterSample => .clk
  | .slaveSample => .clk
  | .parityError => .dio

/-- An annotation record the block can produce (30_encoding.md R105). -/
def MarkRec.wf (m : MarkRec) : Bool :=
  m.channel == m.kind.channel

/-- Whether the operands are ones the spec gives the operation. -/
def Instr.wf : Instr → Bool
  | .reset => true
  | .requestR _ _ _ _ => true
  | .requestW _ _ _ _ => true
  | .noframe b => b &&& Config.resetMask != Config.resetMatch && b &&& Config.reqMask != Config.reqMatch
  | .ackOk => true
  | .ackWait => true
  | .ackFault => true
  | .ackOther v => v != 1#3 && v != 2#3 && v != 4#3
  | .dataR _ _ => true
  | .dataW _ _ => true
  | .turn => true
  | .frame r => r.wf
  | .mark m => m.wf
  | .prog _ => true
  | .nextEdge => true
  | .gotoAbs _ => true
  | .level _ => true
  | .advMaster => true
  | .advSlave => true
  | .advEdge => true
  | .advTurn => true
  | .winPush _ _ => true
  | .winClear => true
  | .subShift _ _ => true
  | .matchReset => true
  | .matchRequest => true
  | .parity _ hi lo => decide (lo ≤ hi)
  | .step => true
  | .scan => true
  | .resetClose => true
  | .reqClose => true
  | .emitFrame t p a b => (FrameRec.mk t p a b 0#8).wf
  | .markOp i k c => (MarkRec.mk i k c).wf
  | .reportProgress _ => true
  | .decode => true
  | .turn1 => true
  | .ack => true
  | .ackClose => true
  | .turn2 => true
  | .data => true
  | .dataClose => true
  | .turn3 => true
  | .dispatch => true

end Sys2Proof
end

