-- ==== Sys2Proof/Decode.lean ====
section
/-! DEFINITION. The numeric codes, the decoder from raw contents to operations, the encoder back, and the reading of a word
of spec/opcode_table.json. -/

namespace Sys2Proof

/-! Numeric codes. -/

/-- Frame type codes (30_encoding.md R102). -/
def FrameType.code : FrameType → BitVec 3
  | .reset => 0#3
  | .request => 1#3
  | .ack => 2#3
  | .read => 3#3
  | .write => 4#3

/-- Codes 5 to 7 stand for no type (30_encoding.md R102, R109). -/
def FrameType.ofCode (c : BitVec 3) : Option FrameType :=
  if c = 0#3 then some .reset
  else if c = 1#3 then some .request
  else if c = 2#3 then some .ack
  else if c = 3#3 then some .read
  else if c = 4#3 then some .write
  else none

/-- Marker kind codes (30_encoding.md R105). -/
def MarkKind.code : MarkKind → BitVec 2
  | .masterSample => 0#2
  | .slaveSample => 1#2
  | .parityError => 2#2

/-- Code 3 stands for no kind (30_encoding.md R105, R109). -/
def MarkKind.ofCode (c : BitVec 2) : Option MarkKind :=
  if c = 0#2 then some .masterSample
  else if c = 1#2 then some .slaveSample
  else if c = 2#2 then some .parityError
  else none

/-- Channel codes (30_encoding.md R105). -/
def Channel.code : Channel → Bit
  | .clk => 0#1
  | .dio => 1#1

/-- Both channel codes are used (30_encoding.md R105). -/
def Channel.ofCode (c : Bit) : Channel :=
  if c = 1#1 then .dio else .clk

/-- TT as the value of RnW: 1 is Read, 0 is Write (10_state.md R33). -/
def TransType.code : TransType → Bit
  | .write => 0#1
  | .read => 1#1

/-- "Read if bit5 set, else Write" (10_state.md R33, 30_encoding.md R96). -/
def TransType.ofCode (c : Bit) : TransType :=
  if c = 1#1 then .read else .write

/-- PHASE codes (10_state.md R34). -/
def Phase.code : Phase → BitVec 4
  | .scan => 0#4
  | .resetClose => 1#4
  | .reqClose => 2#4
  | .turn1 => 3#4
  | .ack => 4#4
  | .ackClose => 5#4
  | .turn2 => 6#4
  | .data => 7#4
  | .dataClose => 8#4
  | .turn3 => 9#4
  | .halted => 10#4

/-- Codes 11 to 15 stand for no PHASE (10_state.md R34). -/
def Phase.ofCode (c : BitVec 4) : Option Phase :=
  if c = 0#4 then some .scan
  else if c = 1#4 then some .resetClose
  else if c = 2#4 then some .reqClose
  else if c = 3#4 then some .turn1
  else if c = 4#4 then some .ack
  else if c = 5#4 then some .ackClose
  else if c = 6#4 then some .turn2
  else if c = 7#4 then some .data
  else if c = 8#4 then some .dataClose
  else if c = 9#4 then some .turn3
  else if c = 10#4 then some .halted
  else none

/-- HCAUSE codes (10_state.md R35). -/
def HCause.code : HCause → BitVec 2
  | .none => 0#2
  | .traceExhausted => 1#2
  | .stopped => 2#2

/-! Field extraction and the layout of the formats. -/

/-- `bit(v, i)` (00_scope.md R9). -/
def bitAt {w : Nat} (v : BitVec w) (i : Nat) : Bit :=
  v.extractLsb' i 1

/-- The Request byte Start, APnDP, RnW, Addr[3], Addr[2], Parity, Stop, Park, from bit 7 down to bit 0
(30_encoding.md R95). -/
def requestByte (apndp rnw addr3 addr2 par : Bit) : Byte :=
  1#1 ++ apndp ++ rnw ++ addr3 ++ addr2 ++ par ++ 0#1 ++ 1#1

/-- DATW: the 32 data bits above the parity bit (30_encoding.md R99). -/
def dataWord (d : BitVec 32) (par : Bit) : BitVec 33 :=
  d ++ par

/-! The decoder. -/

/-- Why raw contents stand for no operation. -/
inductive DecodeError where
  /-- Frame type code 5, 6 or 7 (R109). -/
  | reservedFrameType
  /-- A flags field that is not 0 (R104). -/
  | reservedFlags
  /-- A payload wider than its type or not of its pattern, or a start after the end (R103, R174). -/
  | malformedFrame
  /-- Marker kind 3 (R109). -/
  | reservedMarkKind
  /-- A marker on the channel its kind never uses (R105). -/
  | markOnWrongChannel
  /-- PHASE code 10: HALTED, in which no step exists (R224). -/
  | haltedPhase
  /-- PHASE codes 11 to 15, never produced (R34). -/
  | unusedPhaseCode
  deriving DecidableEq, Repr

/-- The 8-bit window: 1 byte is the Reset pattern, 32 are Request bytes, 223 are neither
(30_encoding.md R92, R93, R95, R107, R110). -/
def decodeWindow (b : Byte) : Instr :=
  if b &&& 0xFF#8 = 0x00#8 then .reset
  else if b &&& 0xA3#8 = 0xA1#8 then .requestR (bitAt b 6) (bitAt b 4) (bitAt b 3) (bitAt b 2)
  else if b &&& 0xA3#8 = 0x81#8 then .requestW (bitAt b 6) (bitAt b 4) (bitAt b 3) (bitAt b 2)
  else .noframe b

/-- The acknowledge value (30_encoding.md R98, R110). -/
def decodeAck (v : BitVec 3) : Instr :=
  if v = 1#3 then .ackOk
  else if v = 2#3 then .ackWait
  else if v = 4#3 then .ackFault
  else .ackOther v

/-- The data sub-frame, its row selected by TT (30_encoding.md R99, R110). -/
def decodeData (tt : TransType) (v : BitVec 33) : Instr :=
  match tt with
  | .read => .dataR (v.extractLsb' 1 32) (bitAt v 0)
  | .write => .dataW (v.extractLsb' 1 32) (bitAt v 0)

/-- A Frame record from its fields (30_encoding.md R101 to R104, R109). -/
def decodeFrame (type : BitVec 3) (payload : BitVec 64) (a b : Nat) (flags : BitVec 8) :
    Except DecodeError Instr :=
  match FrameType.ofCode type with
  | none => .error .reservedFrameType
  | some t =>
    if flags ≠ 0#8 then .error .reservedFlags
    else if (FrameRec.mk t payload a b flags).wf then .ok (.frame ⟨t, payload, a, b, flags⟩)
    else .error .malformedFrame

/-- An annotation record from its fields (30_encoding.md R105, R109). -/
def decodeMark (i : Nat) (kind : BitVec 2) (channel : Bit) : Except DecodeError Instr :=
  match MarkKind.ofCode kind with
  | none => .error .reservedMarkKind
  | some k =>
    if Channel.ofCode channel = k.channel then .ok (.mark ⟨i, k, Channel.ofCode channel⟩)
    else .error .markOnWrongChannel

/-- The step a PHASE selects; none in HALTED (10_state.md R34, 42_scan_reset_request.md R170). -/
def Phase.selects : Phase → Except DecodeError Instr
  | .scan => .ok .scan
  | .resetClose => .ok .resetClose
  | .reqClose => .ok .reqClose
  | .turn1 => .ok .turn1
  | .ack => .ok .ack
  | .ackClose => .ok .ackClose
  | .turn2 => .ok .turn2
  | .data => .ok .data
  | .dataClose => .ok .dataClose
  | .turn3 => .ok .turn3
  | .halted => .error .haltedPhase

/-- The step a PHASE code selects (10_state.md R34). -/
def decodePhase (c : BitVec 4) : Except DecodeError Instr :=
  match Phase.ofCode c with
  | none => .error .unusedPhaseCode
  | some p => p.selects

/-- The decoder, total on every raw content. -/
def decode : Word → Except DecodeError Instr
  | .window b => .ok (decodeWindow b)
  | .ack v => .ok (decodeAck v)
  | .data tt v => .ok (decodeData (TransType.ofCode tt) v)
  | .turn => .ok .turn
  | .frame t p a b f => decodeFrame t p a b f
  | .mark i k c => decodeMark i k c
  | .prog i => .ok (.prog i)
  | .phase c => decodePhase c

/-! The encoder. -/

/-- The raw contents that stand for an operation; `none` for the operations without a bit encoding
(30_encoding.md R110). -/
def encode : Instr → Option Word
  | .reset => some (.window 0x00#8)
  | .requestR a d3 d2 p => some (.window (requestByte a 1#1 d3 d2 p))
  | .requestW a d3 d2 p => some (.window (requestByte a 0#1 d3 d2 p))
  | .noframe b => some (.window b)
  | .ackOk => some (.ack 1#3)
  | .ackWait => some (.ack 2#3)
  | .ackFault => some (.ack 4#3)
  | .ackOther v => some (.ack v)
  | .dataR d p => some (.data 1#1 (dataWord d p))
  | .dataW d p => some (.data 0#1 (dataWord d p))
  | .turn => some .turn
  | .frame r => some (.frame r.type.code r.payload r.startSample r.endSample r.flags)
  | .mark m => some (.mark m.sampleIndex m.kind.code m.channel.code)
  | .prog s => some (.prog s)
  | .nextEdge => none
  | .gotoAbs _ => none
  | .level _ => none
  | .advMaster => none
  | .advSlave => none
  | .advEdge => none
  | .advTurn => none
  | .winPush _ _ => none
  | .winClear => none
  | .subShift _ _ => none
  | .matchReset => none
  | .matchRequest => none
  | .parity _ _ _ => none
  | .step => none
  | .scan => some (.phase 0#4)
  | .resetClose => some (.phase 1#4)
  | .reqClose => some (.phase 2#4)
  | .emitFrame _ _ _ _ => none
  | .markOp _ _ _ => none
  | .reportProgress _ => none
  | .decode => none
  | .turn1 => some (.phase 3#4)
  | .ack => some (.phase 4#4)
  | .ackClose => some (.phase 5#4)
  | .turn2 => some (.phase 6#4)
  | .data => some (.phase 7#4)
  | .dataClose => some (.phase 8#4)
  | .turn3 => some (.phase 9#4)
  | .dispatch => none

/-! Words as spec/opcode_table.json numbers them. -/

/-- Which raw contents `nbits` bits of value `w` are.  DESIGN CHOICE (log 14): the format is the hardware's context and not in
the bits, so eight bits are the 8-bit window, but for the values 1 to 7, read as a 3-bit acknowledge padded to a byte;
33 bits (40 in whole bytes) are a data sub-frame with TT at its reset value Write; 0 bits are a turnaround; 4 bits are a
PHASE code. -/
def tableWord (nbits w : Nat) : Option Word :=
  if nbits = 8 then
    if w = 0 then some (.window 0#8)
    else if w < 8 then some (.ack (BitVec.ofNat 3 w))
    else if w < 256 then some (.window (BitVec.ofNat 8 w))
    else none
  else if nbits = 3 then (if w < 8 then some (.ack (BitVec.ofNat 3 w)) else none)
  else if nbits = 33 ∨ nbits = 40 then (if w < 2 ^ 33 then some (.data 0#1 (BitVec.ofNat 33 w)) else none)
  else if nbits = 0 then (if w = 0 then some .turn else none)
  else if nbits = 4 then (if w < 16 then some (.phase (BitVec.ofNat 4 w)) else none)
  else none

/-- The instruction the decoder reads from a word of the opcode table. -/
def decodeTableWord (nbits w : Nat) : Option Instr :=
  match tableWord nbits w with
  | none => none
  | some x =>
    match decode x with
    | .ok i => some i
    | .error _ => none

end Sys2Proof
end

