-- ==== Sys2Proof/Machine/State.lean ====
section
/-! DEFINITION. The machine's state as plain data, the reasons a step can stop, and the state after reset
(10_state.md R20 to R44). -/

namespace Sys2Proof.Machine

/-- A trace: the level at START_SAMPLE and the sample indices at which the level toggles (20_memory.md R61). -/
structure Trace where
  init : Bit
  edges : List Nat
  deriving DecidableEq, Repr

/-- The canonical form: transition indices strictly rising and all after START_SAMPLE (20_memory.md R61). -/
abbrev Trace.wf (t : Trace) : Prop :=
  t.edges.Pairwise (· < ·) ∧ ∀ e ∈ t.edges, Config.startSample < e

/-- The block's input address spaces, read-only (20_memory.md R60, R62): parameters of the step in the spec
(10_state.md R40), carried in the state here (log 1). -/
structure Memory where
  clkt : Trace
  diot : Trace
  deriving DecidableEq, Repr

/-- Both traces are in canonical form. -/
abbrev Memory.wf (m : Memory) : Prop :=
  m.clkt.wf ∧ m.diot.wf

/-- A cursor: position and cached level (10_state.md R21, R22). -/
structure Cursor where
  pos : Nat
  lvl : Bit
  deriving DecidableEq, Repr

/-- TRK[0..7], entry 0 the newest (10_state.md R27). -/
structure Tracker where
  t0 : Nat
  t1 : Nat
  t2 : Nat
  t3 : Nat
  t4 : Nat
  t5 : Nat
  t6 : Nat
  t7 : Nat
  deriving DecidableEq, Repr

/-- What a value-returning operation hands to its caller: the MODEL's own, not the spec's (log 2). -/
inductive Ret where
  /-- Nothing has been returned. -/
  | nothing
  /-- A level or a parity (R133, R154). -/
  | bit (b : Bit)
  /-- The value of a match predicate (R152, R153). -/
  | truth (b : Bool)
  /-- A sample index (R134, R135). -/
  | index (i : Nat)
  deriving DecidableEq, Repr

/-- The complete state of the block (10_state.md R20), with the traces it reads and the model's own STOPAT and
RET. -/
structure State where
  /-- CLKT and DIOT. -/
  mem : Memory
  /-- CLK (R21). -/
  clk : Cursor
  /-- DIO (R22). -/
  dio : Cursor
  /-- WIN (R25). -/
  win : BitVec 32
  /-- WCNT, 0 to 32 (R26; log 20). -/
  wcnt : Nat
  /-- TRK[0..7] (R27). -/
  trk : Tracker
  /-- ACKW (R28). -/
  ackw : BitVec 3
  /-- DATW (R29). -/
  datw : BitVec 33
  /-- BITCNT, 0 to 33 (R30; log 20). -/
  bitcnt : Nat
  /-- SUBSTART (R31). -/
  substart : Nat
  /-- PARPOS (R32). -/
  parpos : Nat
  /-- TT (R33). -/
  tt : TransType
  /-- PHASE (R34). -/
  phase : Phase
  /-- HCAUSE (R35). -/
  hcause : HCause
  /-- STOPREQ (R36). -/
  stopreq : Bool
  /-- When the host makes its move, the MODEL's own: it sets STOPREQ between two steps, once CLK has reached this index; `none`
  if never (60_exceptions.md R229; log 17). -/
  stopAt : Option Nat
  /-- FRAMES (R37). -/
  frames : List FrameRec
  /-- MARKS (R38). -/
  marks : List MarkRec
  /-- PROGRESS (R39). -/
  progress : Option Nat
  /-- RET, the model's own (log 2). -/
  ret : Ret
  deriving DecidableEq, Repr

/-- Why the machine stops. -/
inductive Fault where
  /-- PHASE is HALTED: no step exists and nothing runs (60_exceptions.md R224).  Raised by `step` and by every meaning in
  that phase.  Safe: the spec gives no next state (log 3). -/
  | halted
  deriving DecidableEq, Repr

/-- Why an operation has no meaning where it stands. -/
inductive Refusal where
  /-- The arm of an instruction that has no meaning yet; no arm is left.  Safe. -/
  | notModelled (mnemonic : String)
  /-- GOTO_ABS to an index before DIO.pos, which the spec refuses (20_memory.md R68, 40_cursor_ops.md R132, decision D18).
  Raised by GOTO_ABS and, in states no run reaches, by the operations that call it.  Safe (log 4). -/
  | backwardMove
  deriving DecidableEq, Repr

/-- The state right after reset (10_state.md R44, 70_reset_and_hazards.md R251) of a decoder whose two traces have no
transition and a low level (DESIGN CHOICE, log 1). -/
def State.reset : State where
  mem := ⟨⟨0#1, []⟩, ⟨0#1, []⟩⟩
  clk := ⟨Config.startSample, 0#1⟩
  dio := ⟨Config.startSample, 0#1⟩
  win := 0#32
  wcnt := 0
  trk := ⟨0, 0, 0, 0, 0, 0, 0, 0⟩
  ackw := 0#3
  datw := 0#33
  bitcnt := 0
  substart := 0
  parpos := 0
  tt := .write
  phase := .scan
  hcause := .none
  stopreq := false
  stopAt := none
  frames := []
  marks := []
  progress := none
  ret := .nothing

end Sys2Proof.Machine
end

