-- ==== Sys2Proof/Machine/Ops.lean ====
section
/-! DEFINITION. The shared operations over the traces, the cursors, the registers and the sinks; taking TraceExhausted; and
how an operation becomes an outcome. -/

namespace Sys2Proof.Machine

/-! Reading a trace (20_memory.md R61, R66). -/

/-- How many transitions of the list lie at or before `s`. -/
def countUpTo (s : Nat) : List Nat → Nat
  | [] => 0
  | e :: es => (if e ≤ s then 1 else 0) + countUpTo s es

/-- MemRead(T, s, 1): the initial level toggled once for every transition at or before `s` (20_memory.md R61). -/
def Trace.level (t : Trace) (s : Nat) : Bit :=
  t.init ^^^ BitVec.ofNat 1 (countUpTo s t.edges % 2)

/-- The smallest element of the list greater than `s`. -/
def leastAbove (s : Nat) : List Nat → Option Nat
  | [] => none
  | e :: es =>
    if s < e then
      match leastAbove s es with
      | none => some e
      | some m => some (min e m)
    else leastAbove s es

/-- NextEdge(T, s): the smallest transition index greater than `s`, or none (20_memory.md R66). -/
def Trace.nextEdge (t : Trace) (s : Nat) : Option Nat :=
  leastAbove s t.edges

/-- How many transitions of the list lie after `s`. -/
def countAbove (s : Nat) : List Nat → Nat
  | [] => 0
  | e :: es => (if s < e then 1 else 0) + countAbove s es

/-- The clock transitions not yet passed: what bounds a run (42_scan_reset_request.md R179). -/
def State.remaining (s : State) : Nat :=
  countAbove s.clk.pos s.mem.clkt.edges

/-! Named register updates. -/

def State.setClk (s : State) (c : Cursor) : State := { s with clk := c }

def State.setDio (s : State) (c : Cursor) : State := { s with dio := c }

def State.setWindow (s : State) (w : BitVec 32) (n : Nat) (t : Tracker) : State :=
  { s with win := w, wcnt := n, trk := t }

def State.setAckw (s : State) (v : BitVec 3) : State := { s with ackw := v }

def State.setDatw (s : State) (v : BitVec 33) : State := { s with datw := v }

def State.setBitcnt (s : State) (n : Nat) : State := { s with bitcnt := n }

def State.setSubstart (s : State) (i : Nat) : State := { s with substart := i }

def State.setParpos (s : State) (i : Nat) : State := { s with parpos := i }

def State.setTt (s : State) (t : TransType) : State := { s with tt := t }

def State.setPhase (s : State) (p : Phase) : State := { s with phase := p }

def State.setRet (s : State) (r : Ret) : State := { s with ret := r }

/-- Append(FRAMES, r) (00_scope.md R11, 20_memory.md R70). -/
def State.addFrame (s : State) (r : FrameRec) : State := { s with frames := s.frames ++ [r] }

/-- Append(MARKS, m) (00_scope.md R11, 20_memory.md R71). -/
def State.addMark (s : State) (m : MarkRec) : State := { s with marks := s.marks ++ [m] }

/-- PROGRESS <- i (20_memory.md R72). -/
def State.setProgress (s : State) (i : Nat) : State := { s with progress := some i }

/-- Halting: PHASE <- HALTED, HCAUSE <- cause, nothing else.  With cause TraceExhausted it is the block's exception entry,
with cause Stopped the honoured stop request (60_exceptions.md R222, R229).  There is no return from it (R224). -/
def State.halt (s : State) (c : HCause) : State := { s with phase := .halted, hcause := c }

/-- The host's one move: set STOPREQ (10_state.md R36, 60_exceptions.md R229, R237; log 17). -/
def State.requestStop (s : State) : State := { s with stopreq := true }

/-- The host's choice of when, if ever, it makes its move (60_exceptions.md R229; log 17). -/
def State.scheduleStop (s : State) (i : Option Nat) : State := { s with stopAt := i }

/-- Whether the host's moment has come. -/
def State.stopDue (s : State) : Bool :=
  match s.stopAt with
  | none => false
  | some i => decide (i ≤ s.clk.pos)

/-- The host's turn, between two steps: the move, if its moment has come (60_exceptions.md R229, R237; log 17). -/
def State.hostMoved (s : State) : State :=
  if s.stopDue then s.requestStop else s

/-- Creation of a decoder for a pair of traces: the reset state of 10_state.md R44 over them
(60_exceptions.md R237, 70_reset_and_hazards.md R250, R251). -/
def State.created (clkt diot : Trace) : State :=
  { State.reset with
    mem := ⟨clkt, diot⟩
    clk := ⟨Config.startSample, clkt.level Config.startSample⟩
    dio := ⟨Config.startSample, diot.level Config.startSample⟩ }

/-! Running an operation's pseudocode (00_scope.md R11). -/

/-- What running an operation's pseudocode comes to. -/
inductive Ran where
  /-- It ran to its end. -/
  | done (s : State)
  /-- `raise TraceExhausted`, with every write made so far kept (00_scope.md R11). -/
  | raised (s : State)
  /-- It asked for something outside the contract. -/
  | refused (r : Refusal)
  deriving DecidableEq, Repr

/-- `call` one operation after another; a raise inside propagates (00_scope.md R11). -/
def Ran.andThen (r : Ran) (k : State → Ran) : Ran :=
  match r with
  | .done s => k s
  | .raised s => .raised s
  | .refused x => .refused x

/-- The end of an operation: TraceExhausted is taken by halting in the state the raise left
(60_exceptions.md R222, 42_scan_reset_request.md R170). -/
def Ran.outcome : Ran → Host.Outcome State Fault Refusal
  | .done s => .next s
  | .raised s => .next (s.halt .traceExhausted)
  | .refused x => .refused x

/-- Execute an operation by itself: nothing runs in HALTED (60_exceptions.md R224; log 3). -/
def runOp (op : State → Ran) (s : State) : Host.Outcome State Fault Refusal :=
  if s.phase = .halted then .fault .halted else (op s).outcome

/-- An operation that changes the state and cannot raise. -/
def pureOp (f : State → State) (s : State) : Ran :=
  .done (f s)

/-- `for k = start .. start + n - 1: body k`. -/
def forFrom (body : Nat → State → Ran) : Nat → Nat → State → Ran
  | _, 0, s => .done s
  | k, n + 1, s => (body k s).andThen (forFrom body (k + 1) n)

/-! Cursor operations (40_cursor_ops.md). -/

/-- NEXT_EDGE (R131). -/
def nextEdgeOp (s : State) : Ran :=
  match s.mem.clkt.nextEdge s.clk.pos with
  | none => .raised s
  | some e => .done (s.setClk ⟨e, s.clk.lvl ^^^ 1#1⟩)

/-- GOTO_ABS(i) (R132): refused backward (decision D18). -/
def gotoAbsOp (i : Nat) (s : State) : Ran :=
  if i < s.dio.pos then .refused .backwardMove
  else .done (s.setDio ⟨i, s.mem.diot.level i⟩)

/-- `call GOTO_ABS(CLK.pos)`, which ends every composite (R140). -/
def resync (s : State) : Ran :=
  gotoAbsOp s.clk.pos s

/-- `if CLK.lvl = l then call NEXT_EDGE`: normalising the phase (R134, R135). -/
def nextEdgeIfLevel (l : Bit) (s : State) : Ran :=
  if s.clk.lvl = l then nextEdgeOp s else .done s

/-- A sample point: the marker at CLK.pos, then the resync (R134, R135, R105). -/
def samplePoint (k : MarkKind) (s : State) : Ran :=
  resync (s.addMark ⟨s.clk.pos, k, .clk⟩)

/-- ADV_MASTER (R134); its result is CLK.pos. -/
def advMasterOp (s : State) : Ran :=
  (nextEdgeIfLevel 1#1 s).andThen fun a =>
  (nextEdgeOp a).andThen (samplePoint .masterSample)

/-- ADV_SLAVE (R135); its result is CLK.pos.  `mirrored` selects the reading that decision D9 rejects: if the clock is low,
to the rising edge; then to the falling edge. -/
def advSlaveWith (mirrored : Bool) (s : State) : Ran :=
  if mirrored then
    (nextEdgeIfLevel 0#1 s).andThen fun a =>
    (nextEdgeOp a).andThen (samplePoint .slaveSample)
  else
    (nextEdgeIfLevel 1#1 s).andThen fun a =>
    (nextEdgeOp a).andThen fun b =>
    (nextEdgeOp b).andThen (samplePoint .slaveSample)

/-- ADV_SLAVE under the reading decision D9 takes (R135; log 7). -/
def advSlaveOp (s : State) : Ran :=
  advSlaveWith Config.slaveMirrored s

/-- ADV_EDGE (R136). -/
def advEdgeOp (s : State) : Ran :=
  (nextEdgeOp s).andThen resync

/-- ADV_TURN (R137): two transitions, one resync after the second. -/
def advTurnOp (s : State) : Ran :=
  (nextEdgeOp s).andThen fun a =>
  (nextEdgeOp a).andThen resync

/-! Sink operations (42_scan_reset_request.md R174 to R176). -/

/-- EMIT_FRAME(type, payload, start, end): append the record with flags 0, then report `end` (R174, R176). -/
def emit (t : FrameType) (payload : BitVec 64) (a b : Nat) (s : State) : State :=
  (s.addFrame ⟨t, payload, a, b, 0#8⟩).setProgress b

end Sys2Proof.Machine
end

