-- ==== Sys2Proof/Machine/Operands.lean ====
section
/-! DEFINITION. The operand forms: cursor levels, the low byte, tracker entries, and shifting a sampled bit into a window
(41_window_match_parity.md R150, R151, R155). -/

namespace Sys2Proof.Machine

/-- LEVEL(C) (40_cursor_ops.md R133). -/
def levelOf (c : CursorName) (s : State) : Bit :=
  match c with
  | .clk => s.clk.lvl
  | .dio => s.dio.lvl

/-- `WIN[7:0]`. -/
def lowByte (s : State) : Byte :=
  s.win.extractLsb' 0 8

/-- `TRK[i]`. -/
def Tracker.entry (t : Tracker) : Fin 8 → Nat
  | 0 => t.t0
  | 1 => t.t1
  | 2 => t.t2
  | 3 => t.t3
  | 4 => t.t4
  | 5 => t.t5
  | 6 => t.t6
  | 7 => t.t7

/-- `for i = 7 downto 1: TRK[i] <- TRK[i-1]; TRK[0] <- s` (41_window_match_parity.md R150). -/
def Tracker.push (t : Tracker) (s : Nat) : Tracker :=
  ⟨s, t.t0, t.t1, t.t2, t.t3, t.t4, t.t5, t.t6⟩

/-- `((X << 1) | b)[n-1:0]` for a window of n bits (41_window_match_parity.md R150, R155). -/
def shiftIn {n : Nat} (x : BitVec n) (b : Bit) : BitVec n :=
  (x <<< 1) ||| b.setWidth n

/-- WIN_PUSH(b, s) (R150). -/
def winPush (b : Bit) (i : Nat) (s : State) : State :=
  s.setWindow (shiftIn s.win b) (min (s.wcnt + 1) Config.winCap) (s.trk.push i)

/-- WIN_CLEAR (R151). -/
def winClear (s : State) : State :=
  s.setWindow 0#32 0 ⟨0, 0, 0, 0, 0, 0, 0, 0⟩

/-- SUB_SHIFT(X, n, b) (R155). -/
def subShift (x : SubWindow) (b : Bit) (s : State) : State :=
  match x with
  | .ackw => s.setAckw (shiftIn s.ackw b)
  | .datw => s.setDatw (shiftIn s.datw b)

end Sys2Proof.Machine
end

