-- ==== Sys2Proof/Machine/Flags.lean ====
section
/-! DEFINITION. The parity fold, the two match predicates, and TT from the Request byte
(41_window_match_parity.md R152 to R154, 10_state.md R33). -/

namespace Sys2Proof.Machine

/-- `bit(v, lo) ^ ... ^ bit(v, lo + n - 1)`. -/
def xorFold (v lo : Nat) : Nat → Bit
  | 0 => 0#1
  | n + 1 => BitVec.ofBool (v.testBit (lo + n)) ^^^ xorFold v lo n

/-- PARITY(v, hi, lo) (R154): the fold of the span for lo <= hi; for hi < lo, where the spec states no result, a free value
(log 5). -/
def parityOf (v hi lo : Nat) : Bit :=
  if hi < lo then Config.emptySpanParity v hi lo else xorFold v lo (hi + 1 - lo)

/-- The Request parity: the fold of bits 6 to 2 (R154, 30_encoding.md R97). -/
def requestParity (b : Byte) : Bit :=
  parityOf b.toNat Config.reqParHi Config.reqParLo

/-- The Data parity: the fold of all 33 bits (R154, 30_encoding.md R99). -/
def dataParity (v : BitVec 33) : Bit :=
  parityOf v.toNat (Config.dataWidth - 1) 0

/-- MATCH_RESET (R152). -/
def matchReset (s : State) : Bool :=
  decide (Config.matchWidth ≤ s.wcnt) && lowByte s &&& Config.resetMask == Config.resetMatch

/-- MATCH_REQUEST (R153). -/
def matchRequest (s : State) : Bool :=
  decide (Config.matchWidth ≤ s.wcnt) && lowByte s &&& Config.reqMask == Config.reqMatch

/-- TT from a Request byte: bit 5 set is Read, else Write (10_state.md R33, 42_scan_reset_request.md R173). -/
def transTypeOf (b : Byte) : TransType :=
  TransType.ofCode (bitAt b 5)

/-- `if PARITY(...) = 1 then Append(MARKS, (index, ParityError, DIO))` (60_exceptions.md R225, R226). -/
def reportParity (p : Bit) (i : Nat) (s : State) : State :=
  if p = 1#1 then s.addMark ⟨i, .parityError, .dio⟩ else s

end Sys2Proof.Machine
end

