-- ==== Sys2Proof/Machine/Scan.lean ====
section
/-! DEFINITION. The outer scan and the two closing steps of the patterns: SCAN, RESET_CLOSE, REQ_CLOSE
(42_scan_reset_request.md R171 to R173). -/

namespace Sys2Proof.Machine

/-- What follows the ADV_MASTER of a scan: push the sampled bit with its index (R171). -/
def pushSample (s : State) : State :=
  winPush s.dio.lvl s.clk.pos s

/-- The three-way choice of a SCAN step after the push (R171, 30_encoding.md R94). -/
def scanChoice (s : State) : Phase :=
  if matchReset s then .resetClose else if matchRequest s then .reqClose else .scan

/-- SCAN (R171); the stop request is tested first (60_exceptions.md R229, R230). -/
def scanOp (s : State) : Ran :=
  if s.stopreq then .done (s.halt .stopped)
  else (advMasterOp s).andThen fun a => .done ((pushSample a).setPhase (scanChoice (pushSample a)))

/-- The Reset frame of byte `b` and the clearing of the window, after the closing edge (R172). -/
def closeReset (b : Byte) (s : State) : State :=
  winClear (emit .reset (b.setWidth 64) s.trk.t7 s.clk.pos s)

/-- Decode a Reset whose byte is `b` (R172). -/
def resetCloseOp (b : Byte) (s : State) : Ran :=
  (advEdgeOp s).andThen fun a => .done ((closeReset b a).setPhase .scan)

/-- The parity marker, the Request frame of byte `b`, and TT, after the closing edge (R173). -/
def closeRequest (b : Byte) (s : State) : State :=
  (emit .request (b.setWidth 64) s.trk.t7 s.clk.pos (reportParity (requestParity b) s.trk.t2 s)).setTt (transTypeOf b)

/-- Decode a Request whose byte is `b` (R173). -/
def reqCloseOp (b : Byte) (s : State) : Ran :=
  (advEdgeOp s).andThen fun a => .done ((closeRequest b a).setPhase .turn1)

/-- SCAN (R171). -/
def execScan (s : State) : Host.Outcome State Fault Refusal :=
  runOp scanOp s

/-- RESET_CLOSE (R172): the byte is `WIN[7:0]`. -/
def execResetClose (s : State) : Host.Outcome State Fault Refusal :=
  runOp (fun a => resetCloseOp (lowByte a) a) s

/-- REQ_CLOSE (R173): the byte is `WIN[7:0]`. -/
def execReqClose (s : State) : Host.Outcome State Fault Refusal :=
  runOp (fun a => reqCloseOp (lowByte a) a) s

end Sys2Proof.Machine
end

