-- ==== Sys2Proof/Machine/Transaction.lean ====
section
/-! DEFINITION. The seven steps of a transaction: TURN1, ACK, ACK_CLOSE, TURN2, DATA, DATA_CLOSE, TURN3
(43_transaction.md R191 to R197). -/

namespace Sys2Proof.Machine

/-- SUBSTART <- s for the first bit of a sub-frame (R192, R195). -/
def noteStart (first : Bool) (s : State) : State :=
  if first then s.setSubstart s.clk.pos else s

/-- One acknowledge bit at a slave sample (R192, R201). -/
def ackSample (first : Bool) (s : State) : Ran :=
  (advSlaveOp s).andThen fun a => .done (subShift .ackw a.dio.lvl (noteStart first a))

/-- The sampling side of a data bit: slave for a Read, master for a Write (R195). -/
def advData (tt : TransType) (s : State) : Ran :=
  match tt with
  | .read => advSlaveOp s
  | .write => advMasterOp s

/-- One data-phase bit (R195, R201). -/
def dataSample (first : Bool) (s : State) : Ran :=
  (advData s.tt s).andThen fun a =>
    .done (subShift .datw a.dio.lvl ((noteStart first a).setParpos a.clk.pos))

/-- The Ack frame of value `v`, after the closing edge (R193, R201). -/
def closeAck (v : BitVec 3) (s : State) : State :=
  emit .ack (v.setWidth 64) s.substart s.clk.pos s

/-- The frame type of a data sub-frame (R196). -/
def dataFrameType (tt : TransType) : FrameType :=
  match tt with
  | .read => .read
  | .write => .write

/-- The parity marker and the Read or Write frame of content `v`, after the closing edge (R196, R201). -/
def closeData (tt : TransType) (v : BitVec 33) (s : State) : State :=
  emit (dataFrameType tt) (v.setWidth 64) s.substart s.clk.pos (reportParity (dataParity v) s.parpos s)

/-- BITCNT <- BITCNT + 1, and the next PHASE when it reaches `n` (R192, R195). -/
def countBit (n : Nat) (stay leave : Phase) (s : State) : State :=
  (s.setBitcnt (s.bitcnt + 1)).setPhase (if s.bitcnt + 1 = n then leave else stay)

/-- TURN1 (R191). -/
def turn1Op (s : State) : Ran :=
  (advTurnOp s).andThen fun a => .done (((a.setAckw 0#3).setBitcnt 0).setPhase .ack)

/-- ACK (R192). -/
def ackOp (s : State) : Ran :=
  (ackSample (decide (s.bitcnt = 0)) s).andThen fun a => .done (countBit Config.ackWidth .ack .ackClose a)

/-- Close an acknowledge of value `v` (R193). -/
def ackCloseOp (v : BitVec 3) (s : State) : Ran :=
  (advEdgeOp s).andThen fun a =>
    .done ((((closeAck v a).setDatw 0#33).setBitcnt 0).setPhase (match a.tt with | .write => .turn2 | .read => .data))

/-- TURN2 (R194). -/
def turn2Op (s : State) : Ran :=
  (advTurnOp s).andThen fun a => .done (a.setPhase .data)

/-- DATA (R195). -/
def dataOp (s : State) : Ran :=
  (dataSample (decide (s.bitcnt = 0)) s).andThen fun a => .done (countBit Config.dataWidth .data .dataClose a)

/-- Close a data sub-frame of content `v` in direction `tt` (R196). -/
def dataCloseOp (tt : TransType) (v : BitVec 33) (s : State) : Ran :=
  (advEdgeOp s).andThen fun a =>
    match tt with
    | .read => .done ((closeData .read v a).setPhase .turn3)
    | .write => .done ((winClear (closeData .write v a)).setPhase .scan)

/-- TURN3 (R197). -/
def turn3Op (s : State) : Ran :=
  (advTurnOp s).andThen fun a => .done ((winClear a).setPhase .scan)

/-- TURN1 (R191). -/
def execTurn1 (s : State) : Host.Outcome State Fault Refusal :=
  runOp turn1Op s

/-- ACK (R192). -/
def execAck (s : State) : Host.Outcome State Fault Refusal :=
  runOp ackOp s

/-- ACK_CLOSE (R193): the value is ACKW. -/
def execAckClose (s : State) : Host.Outcome State Fault Refusal :=
  runOp (fun a => ackCloseOp a.ackw a) s

/-- TURN2 (R194). -/
def execTurn2 (s : State) : Host.Outcome State Fault Refusal :=
  runOp turn2Op s

/-- DATA (R195). -/
def execData (s : State) : Host.Outcome State Fault Refusal :=
  runOp dataOp s

/-- DATA_CLOSE (R196): the content is DATW, the direction TT. -/
def execDataClose (s : State) : Host.Outcome State Fault Refusal :=
  runOp (fun a => dataCloseOp a.tt a.datw a) s

/-- TURN3 (R197). -/
def execTurn3 (s : State) : Host.Outcome State Fault Refusal :=
  runOp turn3Op s

end Sys2Proof.Machine
end

