-- ==== Sys2Proof/Machine/BigStep.lean ====
section
/-! DEFINITION. STEP and the two big-step forms: STEP (42_scan_reset_request.md R170), DISPATCH (43_transaction.md R201),
DECODE (42_scan_reset_request.md R178). -/

namespace Sys2Proof.Machine

/-- STEP: the rule selected by PHASE; in HALTED no step exists (R170, 60_exceptions.md R224). -/
def execStep (s : State) : Host.Outcome State Fault Refusal :=
  match s.phase with
  | .scan => execScan s
  | .resetClose => execResetClose s
  | .reqClose => execReqClose s
  | .turn1 => execTurn1 s
  | .ack => execAck s
  | .ackClose => execAckClose s
  | .turn2 => execTurn2 s
  | .data => execData s
  | .dataClose => execDataClose s
  | .turn3 => execTurn3 s
  | .halted => .fault .halted

/-- `if TT = t then call ADV_TURN` (R201). -/
def turnIf (t : TransType) (s : State) : Ran :=
  if s.tt = t then advTurnOp s else .done s

/-- DISPATCH, as its pseudocode reads: it names neither PHASE nor BITCNT and changes neither (R201; log 11). -/
def dispatchOp (s : State) : Ran :=
  (advTurnOp s).andThen fun a =>
  (forFrom (fun k => ackSample (decide (k = 0))) 0 Config.ackWidth (a.setAckw 0#3)).andThen fun b =>
  (advEdgeOp b).andThen fun c =>
  (turnIf .write (closeAck c.ackw c)).andThen fun d =>
  (forFrom (fun k => dataSample (decide (k = 0))) 0 Config.dataWidth (d.setDatw 0#33)).andThen fun e =>
  (advEdgeOp e).andThen fun f =>
  turnIf .read (closeData f.tt f.datw f)

/-- One pass of the loop of DECODE after the stop test (R178). -/
def decodePass (s : State) : Ran :=
  (advMasterOp s).andThen fun a =>
  if matchReset (pushSample a) then
    (advEdgeOp (pushSample a)).andThen fun b => .done (closeReset (lowByte b) b)
  else if matchRequest (pushSample a) then
    (advEdgeOp (pushSample a)).andThen fun b =>
    (dispatchOp (closeRequest (lowByte b) b)).andThen (pureOp winClear)
  else .done (pushSample a)

/-- The loop of DECODE.  The host has its turn at the top of each pass, before the stop test, so a stop request made while
the run is on is honoured at the next pass (60_exceptions.md R229; log 17).  The fuel is one more than the clock transitions
left, and every pass takes at least one, so it is never used up before the trace is (R179; log 12). -/
def decodeLoop : Nat → State → Ran
  | 0, s => .raised s
  | n + 1, s =>
    if s.hostMoved.stopreq then .done (s.hostMoved.halt .stopped)
    else (decodePass s.hostMoved).andThen (decodeLoop n)

/-- DECODE (R178). -/
def decodeOp (s : State) : Ran :=
  decodeLoop (s.remaining + 1) s

/-- DISPATCH (R201). -/
def execDispatch (s : State) : Host.Outcome State Fault Refusal :=
  runOp dispatchOp s

/-- DECODE (R178): a whole run; it ends halted. -/
def execDecode (s : State) : Host.Outcome State Fault Refusal :=
  runOp decodeOp s

end Sys2Proof.Machine
end

