-- ==== Sys2Proof/Machine/Cursor.lean ====
section
/-! DEFINITION. The cursor family: NEXT_EDGE, GOTO_ABS, LEVEL, ADV_MASTER, ADV_SLAVE, ADV_EDGE, ADV_TURN
(40_cursor_ops.md), executed by themselves. -/

namespace Sys2Proof.Machine

/-- NEXT_EDGE (R131). -/
def execNextEdge (s : State) : Host.Outcome State Fault Refusal :=
  runOp nextEdgeOp s

/-- GOTO_ABS(i) (R132). -/
def execGotoAbs (i : Nat) (s : State) : Host.Outcome State Fault Refusal :=
  runOp (gotoAbsOp i) s

/-- LEVEL(C) (R133): pure; the level is returned in RET (log 2). -/
def execLevel (c : CursorName) (s : State) : Host.Outcome State Fault Refusal :=
  runOp (pureOp fun a => a.setRet (.bit (levelOf c a))) s

/-- `return CLK.pos` (R134, R135; log 2). -/
def returnClkPos (s : State) : Ran :=
  .done (s.setRet (.index s.clk.pos))

/-- ADV_MASTER (R134). -/
def execAdvMaster (s : State) : Host.Outcome State Fault Refusal :=
  runOp (fun a => (advMasterOp a).andThen returnClkPos) s

/-- ADV_SLAVE (R135). -/
def execAdvSlave (s : State) : Host.Outcome State Fault Refusal :=
  runOp (fun a => (advSlaveOp a).andThen returnClkPos) s

/-- ADV_EDGE (R136). -/
def execAdvEdge (s : State) : Host.Outcome State Fault Refusal :=
  runOp advEdgeOp s

/-- ADV_TURN (R137). -/
def execAdvTurn (s : State) : Host.Outcome State Fault Refusal :=
  runOp advTurnOp s

end Sys2Proof.Machine
end

