-- ==== Sys2Proof/Machine/Patterns.lean ====
section
/-! DEFINITION. The input formats as operations: what the decoder does with a recognised Reset, Request byte, acknowledge or
data sub-frame, whose bits the operation carries (30_encoding.md R92 to R100, R107; log 8). -/

namespace Sys2Proof.Machine

/-- RESET: decode a Reset, byte 0x00 (R92, 42_scan_reset_request.md R172). -/
def execReset (s : State) : Host.Outcome State Fault Refusal :=
  runOp (resetCloseOp 0x00#8) s

/-- REQUEST.R: decode a Request byte with RnW = 1 (R95, 42_scan_reset_request.md R173). -/
def execRequestR (apndp addr3 addr2 par : Bit) (s : State) : Host.Outcome State Fault Refusal :=
  runOp (reqCloseOp (requestByte apndp 1#1 addr3 addr2 par)) s

/-- REQUEST.W: decode a Request byte with RnW = 0 (R95, 42_scan_reset_request.md R173). -/
def execRequestW (apndp addr3 addr2 par : Bit) (s : State) : Host.Outcome State Fault Refusal :=
  runOp (reqCloseOp (requestByte apndp 0#1 addr3 addr2 par)) s

/-- NOFRAME: the byte produces nothing and the scan goes on (R107, 60_exceptions.md R228). -/
def execNoframe (_b : Byte) (s : State) : Host.Outcome State Fault Refusal :=
  runOp (pureOp fun a => a.setPhase .scan) s

/-- ACK.OK: an acknowledge of value 1 (R98, 43_transaction.md R193). -/
def execAckOk (s : State) : Host.Outcome State Fault Refusal :=
  runOp (ackCloseOp 1#3) s

/-- ACK.WAIT: an acknowledge of value 2, handled like every other value (R98, 43_transaction.md R200). -/
def execAckWait (s : State) : Host.Outcome State Fault Refusal :=
  runOp (ackCloseOp 2#3) s

/-- ACK.FAULT: an acknowledge of value 4, handled like every other value (R98, 43_transaction.md R200). -/
def execAckFault (s : State) : Host.Outcome State Fault Refusal :=
  runOp (ackCloseOp 4#3) s

/-- ACK.OTHER: any other acknowledge value, passed through (R98, R108). -/
def execAckOther (v : BitVec 3) (s : State) : Host.Outcome State Fault Refusal :=
  runOp (ackCloseOp v) s

/-- DATA.R: the data sub-frame of a Read (R99, 43_transaction.md R196). -/
def execDataR (d : BitVec 32) (par : Bit) (s : State) : Host.Outcome State Fault Refusal :=
  runOp (dataCloseOp .read (dataWord d par)) s

/-- DATA.W: the data sub-frame of a Write (R99, 43_transaction.md R196). -/
def execDataW (d : BitVec 32) (par : Bit) (s : State) : Host.Outcome State Fault Refusal :=
  runOp (dataCloseOp .write (dataWord d par)) s

/-- TURN: two clock transitions, nothing sampled (R100, 40_cursor_ops.md R137). -/
def execTurn (s : State) : Host.Outcome State Fault Refusal :=
  runOp advTurnOp s

end Sys2Proof.Machine
end

