-- ==== Sys2Proof/Machine/Sinks.lean ====
section
/-! DEFINITION. The output family: the records FRAME, MARK and PROG (30_encoding.md R101, R105, R106; 20_memory.md R70 to R72)
and the operations EMIT_FRAME, MARK_OP, REPORT_PROGRESS (42_scan_reset_request.md R174 to R176). -/

namespace Sys2Proof.Machine

/-- FRAME: the frame sink accepts the record (20_memory.md R70; log 9). -/
def execFrame (r : FrameRec) (s : State) : Host.Outcome State Fault Refusal :=
  runOp (pureOp fun a => a.addFrame r) s

/-- MARK: the annotation sink accepts the record (20_memory.md R71; log 9). -/
def execMark (m : MarkRec) (s : State) : Host.Outcome State Fault Refusal :=
  runOp (pureOp fun a => a.addMark m) s

/-- PROG: the progress sink accepts the value (20_memory.md R72; log 9). -/
def execProg (i : Nat) (s : State) : Host.Outcome State Fault Refusal :=
  runOp (pureOp fun a => a.setProgress i) s

/-- EMIT_FRAME(type, payload, start, end) (R174). -/
def execEmitFrame (t : FrameType) (p : BitVec 64) (a b : Nat) (s : State) :
    Host.Outcome State Fault Refusal :=
  runOp (pureOp (emit t p a b)) s

/-- MARK(index, kind, channel) (R175). -/
def execMarkOp (i : Nat) (k : MarkKind) (c : Channel) (s : State) : Host.Outcome State Fault Refusal :=
  runOp (pureOp fun a => a.addMark ⟨i, k, c⟩) s

/-- REPORT_PROGRESS(i) (R176). -/
def execReportProgress (i : Nat) (s : State) : Host.Outcome State Fault Refusal :=
  runOp (pureOp fun a => a.setProgress i) s

end Sys2Proof.Machine
end

