-- ==== Sys2Proof/Machine/Window.lean ====
section
/-! DEFINITION. The window family: WIN_PUSH, WIN_CLEAR, SUB_SHIFT, MATCH_RESET, MATCH_REQUEST, PARITY
(41_window_match_parity.md), executed by themselves. -/

namespace Sys2Proof.Machine

/-- WIN_PUSH(b, i) (R150). -/
def execWinPush (b : Bit) (i : Nat) (s : State) : Host.Outcome State Fault Refusal :=
  runOp (pureOp (winPush b i)) s

/-- WIN_CLEAR (R151). -/
def execWinClear (s : State) : Host.Outcome State Fault Refusal :=
  runOp (pureOp winClear) s

/-- SUB_SHIFT(X, n, b) (R155). -/
def execSubShift (x : SubWindow) (b : Bit) (s : State) : Host.Outcome State Fault Refusal :=
  runOp (pureOp (subShift x b)) s

/-- MATCH_RESET (R152): the truth value is returned in RET (log 2). -/
def execMatchReset (s : State) : Host.Outcome State Fault Refusal :=
  runOp (pureOp fun a => a.setRet (.truth (matchReset a))) s

/-- MATCH_REQUEST (R153): the truth value is returned in RET (log 2). -/
def execMatchRequest (s : State) : Host.Outcome State Fault Refusal :=
  runOp (pureOp fun a => a.setRet (.truth (matchRequest a))) s

/-- PARITY(v, hi, lo) (R154): the bit is returned in RET (log 2), for every span (log 5). -/
def execParity (v hi lo : Nat) (s : State) : Host.Outcome State Fault Refusal :=
  runOp (pureOp fun a => a.setRet (.bit (parityOf v hi lo))) s

end Sys2Proof.Machine
end

