-- ==== Sys2Proof/Machine/Dispatch.lean ====
section
/-! DEFINITION. The meaning of every operation: one arm per constructor of `Instr`. -/

namespace Sys2Proof.Machine

def exec (i : Instr) (s : State) : Host.Outcome State Fault Refusal :=
  match i with
  | .reset => Sys2Proof.Machine.execReset s
  | .requestR apndp addr3 addr2 par => Sys2Proof.Machine.execRequestR apndp addr3 addr2 par s
  | .requestW apndp addr3 addr2 par => Sys2Proof.Machine.execRequestW apndp addr3 addr2 par s
  | .noframe b => Sys2Proof.Machine.execNoframe b s
  | .ackOk => Sys2Proof.Machine.execAckOk s
  | .ackWait => Sys2Proof.Machine.execAckWait s
  | .ackFault => Sys2Proof.Machine.execAckFault s
  | .ackOther v => Sys2Proof.Machine.execAckOther v s
  | .dataR d par => Sys2Proof.Machine.execDataR d par s
  | .dataW d par => Sys2Proof.Machine.execDataW d par s
  | .turn => Sys2Proof.Machine.execTurn s
  | .frame r => Sys2Proof.Machine.execFrame r s
  | .mark m => Sys2Proof.Machine.execMark m s
  | .prog p => Sys2Proof.Machine.execProg p s
  | .nextEdge => Sys2Proof.Machine.execNextEdge s
  | .gotoAbs p => Sys2Proof.Machine.execGotoAbs p s
  | .level c => Sys2Proof.Machine.execLevel c s
  | .advMaster => Sys2Proof.Machine.execAdvMaster s
  | .advSlave => Sys2Proof.Machine.execAdvSlave s
  | .advEdge => Sys2Proof.Machine.execAdvEdge s
  | .advTurn => Sys2Proof.Machine.execAdvTurn s
  | .winPush b p => Sys2Proof.Machine.execWinPush b p s
  | .winClear => Sys2Proof.Machine.execWinClear s
  | .subShift x b => Sys2Proof.Machine.execSubShift x b s
  | .matchReset => Sys2Proof.Machine.execMatchReset s
  | .matchRequest => Sys2Proof.Machine.execMatchRequest s
  | .parity v hi lo => Sys2Proof.Machine.execParity v hi lo s
  | .step => Sys2Proof.Machine.execStep s
  | .scan => Sys2Proof.Machine.execScan s
  | .resetClose => Sys2Proof.Machine.execResetClose s
  | .reqClose => Sys2Proof.Machine.execReqClose s
  | .emitFrame t p a b => Sys2Proof.Machine.execEmitFrame t p a b s
  | .markOp p k c => Sys2Proof.Machine.execMarkOp p k c s
  | .reportProgress p => Sys2Proof.Machine.execReportProgress p s
  | .decode => Sys2Proof.Machine.execDecode s
  | .turn1 => Sys2Proof.Machine.execTurn1 s
  | .ack => Sys2Proof.Machine.execAck s
  | .ackClose => Sys2Proof.Machine.execAckClose s
  | .turn2 => Sys2Proof.Machine.execTurn2 s
  | .data => Sys2Proof.Machine.execData s
  | .dataClose => Sys2Proof.Machine.execDataClose s
  | .turn3 => Sys2Proof.Machine.execTurn3 s
  | .dispatch => Sys2Proof.Machine.execDispatch s

end Sys2Proof.Machine
end

