-- ==== Sys2Proof/Machine/Fetch.lean ====
section
/-! DEFINITION. What selects the next step, and how a word of the opcode table is put where the next step reads it
(10_state.md R34, 42_scan_reset_request.md R170; log 15). -/

namespace Sys2Proof.Machine

/-- The operation the sequencer selects: the decoding of the PHASE code; none in HALTED (42_scan_reset_request.md R170). -/
def fetch (s : State) : Option Instr :=
  match Sys2Proof.decode (.phase s.phase.code) with
  | .ok i => some i
  | .error _ => none

/-- The assembled content that a closing step is about to decode: the low byte, ACKW, or DATW with TT
(42_scan_reset_request.md R172, R173; 43_transaction.md R193, R196). -/
def pendingWord (s : State) : Option Word :=
  match s.phase with
  | .resetClose => some (.window (lowByte s))
  | .reqClose => some (.window (lowByte s))
  | .ackClose => some (.ack s.ackw)
  | .dataClose => some (.data s.tt.code s.datw)
  | .scan => none
  | .turn1 => none
  | .ack => none
  | .turn2 => none
  | .data => none
  | .turn3 => none
  | .halted => none

/-- Three further clock transitions after everything both cursors and the clock trace have reached: as many as one step can
take. -/
def moreClock (s : State) : State :=
  let m := s.mem.clkt.edges.foldl max (max s.clk.pos s.dio.pos)
  { s with mem := { s.mem with clkt := { s.mem.clkt with edges := s.mem.clkt.edges ++ [m + 1, m + 2, m + 3] } } }

/-- The low byte of WIN becomes `b` and eight bits count as pushed. -/
def loadByte (b : Byte) (s : State) : State :=
  s.setWindow (s.win &&& 0xFFFFFF00#32 ||| b.setWidth 32) (max s.wcnt Config.matchWidth) s.trk

/-- Put raw contents where the step that decodes them reads them: the window and PHASE.  A byte that matches neither pattern
has no closing step: its seven older bits are put in WIN and the SCAN step samples its newest (log 15). -/
def loadWord (x : Word) (s : State) : State :=
  match x with
  | .window b =>
    if b &&& Config.resetMask = Config.resetMatch then (loadByte b (moreClock s)).setPhase .resetClose
    else if b &&& Config.reqMask = Config.reqMatch then (loadByte b (moreClock s)).setPhase .reqClose
    else
      let t := moreClock s
      (({ t with mem := { t.mem with diot := ⟨bitAt b 0, []⟩ } }).setWindow
        (b.setWidth 32 >>> 1) (Config.matchWidth - 1) t.trk).setPhase .scan
  | .ack v => (((moreClock s).setAckw v).setBitcnt Config.ackWidth).setPhase .ackClose
  | .data tt v =>
    ((((moreClock s).setDatw v).setTt (TransType.ofCode tt)).setBitcnt Config.dataWidth).setPhase .dataClose
  | .turn => (moreClock s).setPhase .turn1
  | .phase c =>
    match Phase.ofCode c with
    | none => s
    | some p => (moreClock s).setPhase p
  | .frame _ _ _ _ _ => s
  | .mark _ _ _ => s
  | .prog _ => s

end Sys2Proof.Machine
end

