-- ==== Sys2Proof/Machine/Step.lean ====
section
/-! DEFINITION. One step of the machine (42_scan_reset_request.md R170). -/

namespace Sys2Proof.Machine

/-- One step: the host's turn, then the operation PHASE selects; in HALTED no step exists (60_exceptions.md R224, R229). -/
def step (s : State) : Host.Outcome State Fault Refusal :=
  match fetch s with
  | none => .fault .halted
  | some i => exec i s.hostMoved

/-- `s` with the table's word placed so that the very next step decodes and runs it (log 15). -/
def State.withFetchWord (s : State) (nbits w : Nat) : State :=
  match Sys2Proof.tableWord nbits w with
  | none => s
  | some x => loadWord x s

end Sys2Proof.Machine
end

