-- ==== Sys2Proof/Safety.lean ====
section
/-! DEFINITION. What counts as a safe run: the invariants of the spec (10_state.md R21 to R27, R33 to R35, R39, R41, R45), and
the words the statements use. -/

namespace Sys2Proof.Machine

/-! Words used by the statements. -/

/-- The decoder is running: PHASE is one of the ten steps (60_exceptions.md R233). -/
abbrev State.Running (s : State) : Prop :=
  s.phase ≠ .halted

/-- The clock transitions after CLK.pos, in order. -/
def State.later (s : State) : List Nat :=
  s.mem.clkt.edges.filter fun e => decide (s.clk.pos < e)

/-- The k-th clock transition after CLK.pos, counted from 0. -/
def State.laterAt (s : State) (k : Nat) : Nat :=
  s.later.getD k 0

/-- Both cursors at index `e`: the clock at level `l`, the data cursor with its trace's level (10_state.md R22, R24). -/
abbrev State.movedTo (s : State) (e : Nat) (l : Bit) : State :=
  { s with clk := ⟨e, l⟩, dio := ⟨e, s.mem.diot.level e⟩ }

/-- TraceExhausted taken with the clock cursor left at `c` and nothing else changed (60_exceptions.md R222). -/
abbrev State.exhaustedAt (s : State) (c : Cursor) : State :=
  { s with clk := c, phase := .halted, hcause := .traceExhausted }

/-- The value of a field whose bits were sampled in this order: the sum over k of b_k << (n-1-k) (30_encoding.md R91). -/
def bitsValue : List Bit → Nat
  | [] => 0
  | b :: bs => b.toNat * 2 ^ bs.length + bitsValue bs

/-- The number of set bits of `v` from bit `lo` up to bit `hi`. -/
def setBits (v hi lo : Nat) : Nat :=
  ((List.range (hi + 1)).filter fun i => decide (lo ≤ i) && v.testBit i).length

/-- The levels of the data line at the transitions `start`, `start + 2`, ... after CLK.pos, `n` of them. -/
def State.levelsFrom (s : State) (start n : Nat) : List Bit :=
  (List.range n).map fun k => s.mem.diot.level (s.laterAt (start + 2 * k))

/-- A sample at `e` with the clock left at level `l`: both cursors there and one marker of kind `k` on CLK
(40_cursor_ops.md R134, R135). -/
abbrev State.sampledAt (s : State) (e : Nat) (l : Bit) (k : MarkKind) : State :=
  { s.movedTo e l with marks := s.marks ++ [⟨e, k, .clk⟩] }

/-- A parity report of the span `hi` to `lo` of `v` at `i`: one marker on DIO when the number of set bits is odd
(60_exceptions.md R225, R226). -/
def parityMarks (v hi lo i : Nat) : List MarkRec :=
  if setBits v hi lo % 2 = 1 then [⟨i, .parityError, .dio⟩] else []

/-- After a SCAN step that samples at `r` (42_scan_reset_request.md R171, 41_window_match_parity.md R150). -/
def scannedAt (s : State) (r : Nat) : State :=
  let w := (s.win <<< 1) ||| (s.mem.diot.level r).setWidth 32
  let n := min (s.wcnt + 1) 32
  let b := w.extractLsb' 0 8
  { s.sampledAt r 1#1 .masterSample with
    win := w
    wcnt := n
    trk := ⟨r, s.trk.t0, s.trk.t1, s.trk.t2, s.trk.t3, s.trk.t4, s.trk.t5, s.trk.t6⟩
    phase :=
      if 8 ≤ n ∧ b = 0x00#8 then .resetClose
      else if 8 ≤ n ∧ b &&& 0x83#8 = 0x81#8 then .reqClose
      else .scan }

/-- After the decoding of a Reset of byte `b` whose closing edge is `e` (42_scan_reset_request.md R172). -/
def resetClosedAt (s : State) (e : Nat) (b : Byte) : State :=
  { s.movedTo e (s.clk.lvl ^^^ 1#1) with
    frames := s.frames ++ [⟨.reset, b.setWidth 64, s.trk.t7, e, 0#8⟩]
    progress := some e
    win := 0#32
    wcnt := 0
    trk := ⟨0, 0, 0, 0, 0, 0, 0, 0⟩
    phase := .scan }

/-- After the decoding of a Request of byte `b` whose closing edge is `e` (42_scan_reset_request.md R173). -/
def requestClosedAt (s : State) (e : Nat) (b : Byte) : State :=
  { s.movedTo e (s.clk.lvl ^^^ 1#1) with
    marks := s.marks ++ parityMarks b.toNat 6 2 s.trk.t2
    frames := s.frames ++ [⟨.request, b.setWidth 64, s.trk.t7, e, 0#8⟩]
    progress := some e
    tt := if b.getLsbD 5 then .read else .write
    phase := .turn1 }

/-- After the closing of an acknowledge of value `v` at `e` (43_transaction.md R193). -/
def ackClosedAt (s : State) (e : Nat) (v : BitVec 3) : State :=
  { s.movedTo e (s.clk.lvl ^^^ 1#1) with
    frames := s.frames ++ [⟨.ack, v.setWidth 64, s.substart, e, 0#8⟩]
    progress := some e
    datw := 0#33
    bitcnt := 0
    phase := if s.tt = .write then .turn2 else .data }

/-- After the closing of a Read's data sub-frame of content `v` at `e` (43_transaction.md R196). -/
def readClosedAt (s : State) (e : Nat) (v : BitVec 33) : State :=
  { s.movedTo e (s.clk.lvl ^^^ 1#1) with
    marks := s.marks ++ parityMarks v.toNat 32 0 s.parpos
    frames := s.frames ++ [⟨.read, v.setWidth 64, s.substart, e, 0#8⟩]
    progress := some e
    phase := .turn3 }

/-- After the closing of a Write's data sub-frame of content `v` at `e` (43_transaction.md R196). -/
def writeClosedAt (s : State) (e : Nat) (v : BitVec 33) : State :=
  { s.movedTo e (s.clk.lvl ^^^ 1#1) with
    marks := s.marks ++ parityMarks v.toNat 32 0 s.parpos
    frames := s.frames ++ [⟨.write, v.setWidth 64, s.substart, e, 0#8⟩]
    progress := some e
    win := 0#32
    wcnt := 0
    trk := ⟨0, 0, 0, 0, 0, 0, 0, 0⟩
    phase := .scan }

/-- After an ACK step that samples at `f` (43_transaction.md R192). -/
def ackSampledAt (s : State) (f : Nat) : State :=
  { s.sampledAt f 0#1 .slaveSample with
    substart := if s.bitcnt = 0 then f else s.substart
    ackw := (s.ackw <<< 1) ||| (s.mem.diot.level f).setWidth 3
    bitcnt := s.bitcnt + 1
    phase := if s.bitcnt + 1 = 3 then .ackClose else .ack }

/-- After a DATA step that samples at `e`, the clock left at level `l`, with a marker of kind `k` (43_transaction.md R195). -/
def dataSampledAt (s : State) (e : Nat) (l : Bit) (k : MarkKind) : State :=
  { s.sampledAt e l k with
    substart := if s.bitcnt = 0 then e else s.substart
    parpos := e
    datw := (s.datw <<< 1) ||| (s.mem.diot.level e).setWidth 33
    bitcnt := s.bitcnt + 1
    phase := if s.bitcnt + 1 = 33 then .dataClose else .data }

/-! Invariants. -/

/-- The traces are in canonical form and each cursor's cached level is its trace's level at its position
(10_state.md R21, R22; 20_memory.md R61). -/
structure Coherent (s : State) : Prop where
  wf : s.mem.wf
  clk : s.clk.lvl = s.mem.clkt.level s.clk.pos
  dio : s.dio.lvl = s.mem.diot.level s.dio.pos

/-- The cursors are in lockstep while running, and the data cursor is never ahead (10_state.md R24). -/
structure Lockstep (s : State) : Prop where
  running : s.Running → s.dio.pos = s.clk.pos
  behind : s.dio.pos ≤ s.clk.pos

/-- HCAUSE is None exactly when PHASE is not HALTED (10_state.md R35). -/
abbrev CauseOk (s : State) : Prop :=
  s.hcause = .none ↔ s.Running

/-- WCNT never exceeds the capacity, and `TRK[i]` is where `bit(WIN, i)` was sampled, for every i below both WCNT and 8
(10_state.md R26, R27; 41_window_match_parity.md R150). -/
structure WindowOk (s : State) : Prop where
  count : s.wcnt ≤ 32
  tracked : ∀ i : Fin 8, (i : Nat) < s.wcnt → bitAt s.win i = s.mem.diot.level (s.trk.entry i)

/-- The PHASEs of a transaction, entered only from REQ_CLOSE (43_transaction.md R190). -/
def inTransaction : Phase → Bool
  | .turn1 => true
  | .ack => true
  | .ackClose => true
  | .turn2 => true
  | .data => true
  | .dataClose => true
  | .turn3 => true
  | .scan => false
  | .resetClose => false
  | .reqClose => false
  | .halted => false

/-- The clock level in which data-phase bits leave the clock: high at a master sample, low at a slave sample
(40_cursor_ops.md R138). -/
def sampleLevel : TransType → Bit
  | .write => 1#1
  | .read => 0#1

/-- What holds on entry to each step: which pattern matched, the clock level, the direction and the bit count
(43_transaction.md R190 to R198; 10_state.md R30, R33). -/
structure ControlOk (s : State) : Prop where
  resetClose : s.phase = .resetClose → 8 ≤ s.wcnt ∧ lowByte s = 0#8 ∧ s.clk.lvl = 1#1
  reqClose : s.phase = .reqClose → 8 ≤ s.wcnt ∧ lowByte s &&& 0x83#8 = 0x81#8 ∧ s.clk.lvl = 1#1
  turn1 : s.phase = .turn1 → s.clk.lvl = 0#1
  ack : s.phase = .ack → s.bitcnt < 3 ∧ s.clk.lvl = 0#1
  ackClose : s.phase = .ackClose → s.bitcnt = 3 ∧ s.clk.lvl = 0#1
  turn2 : s.phase = .turn2 → s.tt = .write ∧ s.bitcnt = 0 ∧ s.clk.lvl = 1#1
  data : s.phase = .data →
    s.bitcnt < 33 ∧ s.clk.lvl = (if s.bitcnt = 0 then 1#1 else sampleLevel s.tt)
  dataClose : s.phase = .dataClose → s.bitcnt = 33 ∧ s.clk.lvl = sampleLevel s.tt
  turn3 : s.phase = .turn3 → s.tt = .read ∧ s.clk.lvl = 1#1
  transaction : inTransaction s.phase = true →
    lowByte s &&& 0x83#8 = 0x81#8 ∧ s.tt = (if bitAt (lowByte s) 5 = 1#1 then .read else .write)

/-- Every frame emitted so far ends before `i`. -/
def endsBefore (frames : List FrameRec) (i : Nat) : Prop :=
  ∀ f ∈ frames, f.endSample < i

/-- The frame sink is in order: every record is one the block can emit, ranges are disjoint and strictly increasing, none
reaches past the clock cursor, and PROGRESS is the last one's end; the starts noted for a frame still to come lie after the
last one's end (10_state.md R39, R45; 42_scan_reset_request.md R174, R176). -/
structure FramesOk (s : State) : Prop where
  wf : ∀ f ∈ s.frames, f.wf = true
  ordered : s.frames.Pairwise fun f g => f.endSample < g.startSample
  passed : ∀ f ∈ s.frames, f.endSample ≤ s.clk.pos
  progress : s.progress = s.frames.getLast?.map FrameRec.endSample
  tracked : s.phase = .scan ∨ s.phase = .resetClose ∨ s.phase = .reqClose →
    ∀ i : Fin 8, (i : Nat) < s.wcnt → endsBefore s.frames (s.trk.entry i) ∧ s.trk.entry i ≤ s.clk.pos
  started : s.phase = .ack ∨ s.phase = .ackClose ∨ s.phase = .data ∨ s.phase = .dataClose → 0 < s.bitcnt →
    endsBefore s.frames s.substart ∧ s.substart ≤ s.clk.pos

/-- The sample markers of the annotation sink, in the order they were appended. -/
def sampleMarks (marks : List MarkRec) : List MarkRec :=
  marks.filter fun m => m.kind != .parityError

/-- The annotation sink is in order: every record is one the block can produce, and sample markers stand at strictly
increasing indices, none past the clock cursor (30_encoding.md R105, 60_exceptions.md R235). -/
structure MarksOk (s : State) : Prop where
  wf : ∀ m ∈ s.marks, m.wf = true
  ordered : (sampleMarks s.marks).Pairwise fun m n => m.sampleIndex < n.sampleIndex
  passed : ∀ m ∈ sampleMarks s.marks, m.sampleIndex ≤ s.clk.pos

/-- All invariants together: what a state a run can reach satisfies. -/
structure Inv (s : State) : Prop where
  coherent : Coherent s
  lockstep : Lockstep s
  cause : CauseOk s
  window : WindowOk s
  control : ControlOk s
  frames : FramesOk s
  marks : MarksOk s

end Sys2Proof.Machine
end

