-- ==== Sys2Proof/Certificates/Slice0/Obligations.lean ====
section
/-! DEFINITION. The statements for the provers, in the order of OBLIGATIONS.json. -/

open Sys2Proof Sys2Proof.Machine

/-! Traces and cursor operations (20_memory.md, 40_cursor_ops.md). -/

/-- R66: NextEdge(T, s) is the smallest transition greater than s, or none when there is none. -/
def Obligations.NextEdgeIsLeastLaterTransition : Prop :=
  ∀ (t : Trace) (s : Nat),
    (∀ e, t.nextEdge s = some e ↔ e ∈ t.edges ∧ s < e ∧ ∀ x ∈ t.edges, s < x → e ≤ x) ∧
    (t.nextEdge s = none ↔ ∀ x ∈ t.edges, ¬ s < x)

/-- 20_memory.md section 1 (decision D1): the level is constant between transitions, toggles at each one, and the new level
holds at the transition's own index. -/
def Obligations.LevelTogglesExactlyAtTransitions : Prop :=
  ∀ t : Trace, t.wf →
    t.level 0 = t.init ∧
    (∀ s e, t.nextEdge s = some e →
      t.level e = t.level s ^^^ 1#1 ∧ ∀ q, s ≤ q → q < e → t.level q = t.level s) ∧
    (∀ s q, t.nextEdge s = none → s ≤ q → t.level q = t.level s)

/-- NEXT_EDGE (40_cursor_ops.md section 1; rests on decision D1): to the next transition with the level toggled, or
TraceExhausted with nothing moved. -/
def Obligations.NextEdgeMovesOrExhausts : Prop :=
  ∀ s : State, s.Running →
    (∀ e, s.mem.clkt.nextEdge s.clk.pos = some e →
      exec .nextEdge s = .next { s with clk := ⟨e, s.clk.lvl ^^^ 1#1⟩ }) ∧
    (s.mem.clkt.nextEdge s.clk.pos = none → exec .nextEdge s = .next (s.exhaustedAt s.clk))

/-- GOTO_ABS(i) (40_cursor_ops.md section 1; the refusal is decision D18, log 4). -/
def Obligations.GotoAbsMovesForwardOrIsRefused : Prop :=
  ∀ (s : State) (i : Nat), s.Running →
    (s.dio.pos ≤ i → exec (.gotoAbs i) s = .next { s with dio := ⟨i, s.mem.diot.level i⟩ }) ∧
    (i < s.dio.pos → exec (.gotoAbs i) s = .refused .backwardMove)

/-- LEVEL(C) (40_cursor_ops.md section 1, decision D25): the cached level, which in a coherent state is the trace's level at
the cursor's position.  RET is the model's own (log 2). -/
def Obligations.LevelReturnsTheCursorsLevel : Prop :=
  ∀ s : State, s.Running → Coherent s →
    exec (.level .clk) s = .next { s with ret := .bit (s.mem.clkt.level s.clk.pos) } ∧
    exec (.level .dio) s = .next { s with ret := .bit (s.mem.diot.level s.dio.pos) }

/-- R134: ADV_MASTER from a low and from a high clock, and TraceExhausted from either NEXT_EDGE.  RET, which holds the result,
is the model's own (log 2). -/
def Obligations.AdvMasterLandsOnRisingEdge : Prop :=
  ∀ s : State, s.Running →
    (∀ r, s.clk.lvl = 0#1 → s.mem.clkt.nextEdge s.clk.pos = some r → s.dio.pos ≤ r →
      exec .advMaster s = .next { s.sampledAt r 1#1 .masterSample with ret := .index r }) ∧
    (∀ f r, s.clk.lvl = 1#1 → s.mem.clkt.nextEdge s.clk.pos = some f → s.mem.clkt.nextEdge f = some r → s.dio.pos ≤ r →
      exec .advMaster s = .next { s.sampledAt r 1#1 .masterSample with ret := .index r }) ∧
    (s.mem.clkt.nextEdge s.clk.pos = none → exec .advMaster s = .next (s.exhaustedAt s.clk)) ∧
    (∀ f, s.clk.lvl = 1#1 → s.mem.clkt.nextEdge s.clk.pos = some f → s.mem.clkt.nextEdge f = none →
      exec .advMaster s = .next (s.exhaustedAt ⟨f, 0#1⟩))

/-- ADV_SLAVE (40_cursor_ops.md section 2), in the reading of decision D9: from a low and from a high clock, and TraceExhausted
from each NEXT_EDGE.  RET is the model's own (log 2). -/
def Obligations.AdvSlaveLandsOnFallingEdge : Prop :=
  ∀ s : State, s.Running →
    (∀ r f, s.clk.lvl = 0#1 → s.mem.clkt.nextEdge s.clk.pos = some r → s.mem.clkt.nextEdge r = some f → s.dio.pos ≤ f →
      exec .advSlave s = .next { s.sampledAt f 0#1 .slaveSample with ret := .index f }) ∧
    (∀ d r f, s.clk.lvl = 1#1 → s.mem.clkt.nextEdge s.clk.pos = some d → s.mem.clkt.nextEdge d = some r →
      s.mem.clkt.nextEdge r = some f → s.dio.pos ≤ f →
      exec .advSlave s = .next { s.sampledAt f 0#1 .slaveSample with ret := .index f }) ∧
    (s.mem.clkt.nextEdge s.clk.pos = none → exec .advSlave s = .next (s.exhaustedAt s.clk)) ∧
    (∀ r, s.clk.lvl = 0#1 → s.mem.clkt.nextEdge s.clk.pos = some r → s.mem.clkt.nextEdge r = none →
      exec .advSlave s = .next (s.exhaustedAt ⟨r, 1#1⟩)) ∧
    (∀ d, s.clk.lvl = 1#1 → s.mem.clkt.nextEdge s.clk.pos = some d → s.mem.clkt.nextEdge d = none →
      exec .advSlave s = .next (s.exhaustedAt ⟨d, 0#1⟩)) ∧
    (∀ d r, s.clk.lvl = 1#1 → s.mem.clkt.nextEdge s.clk.pos = some d → s.mem.clkt.nextEdge d = some r →
      s.mem.clkt.nextEdge r = none → exec .advSlave s = .next (s.exhaustedAt ⟨r, 1#1⟩))

/-- R136: ADV_EDGE, at either level, and TraceExhausted with nothing moved. -/
def Obligations.AdvEdgeMovesOneTransition : Prop :=
  ∀ s : State, s.Running →
    (∀ e, s.mem.clkt.nextEdge s.clk.pos = some e → s.dio.pos ≤ e →
      exec .advEdge s = .next (s.movedTo e (s.clk.lvl ^^^ 1#1))) ∧
    (s.mem.clkt.nextEdge s.clk.pos = none → exec .advEdge s = .next (s.exhaustedAt s.clk))

/-- R137: ADV_TURN, at either level, and TraceExhausted from either NEXT_EDGE. -/
def Obligations.AdvTurnMovesTwoTransitions : Prop :=
  ∀ s : State, s.Running →
    (∀ a b, s.mem.clkt.nextEdge s.clk.pos = some a → s.mem.clkt.nextEdge a = some b → s.dio.pos ≤ b →
      exec .advTurn s = .next (s.movedTo b s.clk.lvl)) ∧
    (s.mem.clkt.nextEdge s.clk.pos = none → exec .advTurn s = .next (s.exhaustedAt s.clk)) ∧
    (∀ a, s.mem.clkt.nextEdge s.clk.pos = some a → s.mem.clkt.nextEdge a = none →
      exec .advTurn s = .next (s.exhaustedAt ⟨a, s.clk.lvl ^^^ 1#1⟩))

/-- 92_eei_decisions.md D9: the rejected reading of ADV_SLAVE agrees with the one taken when entered low, and when entered high
takes one transition. -/
def Obligations.SlaveReadingsAgreeWhenEnteredLow : Prop :=
  ∀ s : State,
    (s.clk.lvl = 0#1 → advSlaveWith true s = advSlaveWith false s) ∧
    (∀ f, s.clk.lvl = 1#1 → s.mem.clkt.nextEdge s.clk.pos = some f → s.dio.pos ≤ f →
      advSlaveWith true s = .done (s.sampledAt f 0#1 .slaveSample))

/-! Window, matcher, parity (41_window_match_parity.md). -/

/-- WIN_PUSH(b, i) (41_window_match_parity.md section 1; the tracker's depth is decision D11). -/
def Obligations.WinPushShiftsWindowAndTracker : Prop :=
  ∀ (s : State) (b : Bit) (i : Nat), s.Running →
    exec (.winPush b i) s = .next
      { s with
        win := (s.win <<< 1) ||| b.setWidth 32
        wcnt := min (s.wcnt + 1) 32
        trk := ⟨i, s.trk.t0, s.trk.t1, s.trk.t2, s.trk.t3, s.trk.t4, s.trk.t5, s.trk.t6⟩ }

/-- After eight pushes the low byte and the tracker are determined by those eight alone, the first pushed at bit 7 and TRK[7]
(41_window_match_parity.md section 1, 30_encoding.md section 4; decision D11). -/
def Obligations.EightPushesFillByteAndTracker : Prop :=
  ∀ (s : State) (ps : List (Bit × Nat)), ps.length = 8 →
    (lowByte (ps.foldl (fun a p => winPush p.1 p.2 a) s)).toNat = bitsValue (ps.map Prod.fst) ∧
    ∀ k : Fin 8, (ps.foldl (fun a p => winPush p.1 p.2 a) s).trk.entry k = (ps.getD (7 - k) (0#1, 0)).2

/-- The k-th sampled bit of an n-bit field lands at bit n-1-k: the assembled value is the sum of b_k << (n-1-k)
(20_memory.md section 3, 30_encoding.md section 2). -/
def Obligations.FieldIsAssembledFirstBitHighest : Prop :=
  ∀ (n : Nat) (bits : List Bit), bits.length = n →
    (bits.foldl shiftIn (0 : BitVec n)).toNat = bitsValue bits ∧
    ∀ k (h : k < bits.length), bitAt (bits.foldl shiftIn (0 : BitVec n)) (n - 1 - k) = bits[k]

/-- WIN_CLEAR (decision D16) and SUB_SHIFT on ACKW and DATW (decision D24) (41_window_match_parity.md section 1). -/
def Obligations.WinClearAndSubShiftWriteTheirWindow : Prop :=
  ∀ (s : State) (b : Bit), s.Running →
    exec .winClear s = .next { s with win := 0#32, wcnt := 0, trk := ⟨0, 0, 0, 0, 0, 0, 0, 0⟩ } ∧
    exec (.subShift .ackw b) s = .next { s with ackw := (s.ackw <<< 1) ||| b.setWidth 3 } ∧
    exec (.subShift .datw b) s = .next { s with datw := (s.datw <<< 1) ||| b.setWidth 33 }

/-- R152, R153: the two match predicates.  RET, which holds the value, is the model's own (log 2). -/
def Obligations.MatchPredicatesTestTheLowByte : Prop :=
  ∀ s : State, s.Running →
    exec .matchReset s = .next { s with ret := .truth (decide (8 ≤ s.wcnt ∧ s.win.extractLsb' 0 8 &&& 0xFF#8 = 0x00#8)) } ∧
    exec .matchRequest s = .next { s with ret := .truth (decide (8 ≤ s.wcnt ∧ s.win.extractLsb' 0 8 &&& 0x83#8 = 0x81#8)) }

/-- R94, R107: once eight bits have been pushed the predicates agree with the decoder of the low byte, no byte matches both,
and a byte the decoder reads as NOFRAME matches neither. -/
def Obligations.MatcherAgreesWithDecoder : Prop :=
  ∀ s : State, 8 ≤ s.wcnt →
    (matchReset s = true ↔ decode (.window (lowByte s)) = .ok .reset) ∧
    (matchRequest s = true ↔ ∃ a d3 d2 p,
      decode (.window (lowByte s)) = .ok (.requestR a d3 d2 p) ∨ decode (.window (lowByte s)) = .ok (.requestW a d3 d2 p)) ∧
    ¬ (matchReset s = true ∧ matchRequest s = true) ∧
    (matchReset s = false ∧ matchRequest s = false ↔ decode (.window (lowByte s)) = .ok (.noframe (lowByte s)))

/-- PARITY(v, hi, lo) (41_window_match_parity.md section 3): 0 exactly when the span holds an even number of set bits.  RET is
the model's own (log 2).  Over a span with hi < lo, where the spec states no result, PARITY still completes, with one bit that
depends on the operands alone and nothing else changed (the model's choice, log 5). -/
def Obligations.ParityCountsSetBits : Prop :=
  ∀ v hi lo : Nat,
    (lo ≤ hi → ∀ s : State, s.Running →
      exec (.parity v hi lo) s = .next { s with ret := .bit (BitVec.ofNat 1 (setBits v hi lo % 2)) }) ∧
    (hi < lo → ∃ b : Bit, ∀ s : State, s.Running → exec (.parity v hi lo) s = .next { s with ret := .bit b })

/-! Sinks (20_memory.md section 4, 42_scan_reset_request.md section 5). -/

/-- The records FRAME, MARK and PROG reach their sink and touch nothing else (20_memory.md section 4; that a record is executed
by itself is log 9). -/
def Obligations.RecordsReachTheirSink : Prop :=
  ∀ (s : State) (r : FrameRec) (m : MarkRec) (i : Nat), s.Running →
    exec (.frame r) s = .next { s with frames := s.frames ++ [r] } ∧
    exec (.mark m) s = .next { s with marks := s.marks ++ [m] } ∧
    exec (.prog i) s = .next { s with progress := some i }

/-- EMIT_FRAME, MARK and REPORT_PROGRESS (42_scan_reset_request.md section 5; decisions D6, D7, D8): a frame with flags 0 and
its end reported, one marker, the progress value. -/
def Obligations.EmitFrameReportsItsEnd : Prop :=
  ∀ (s : State) (t : FrameType) (p : BitVec 64) (a b i : Nat) (k : MarkKind) (c : Channel), s.Running →
    exec (.emitFrame t p a b) s = .next { s with frames := s.frames ++ [⟨t, p, a, b, 0#8⟩], progress := some b } ∧
    exec (.markOp i k c) s = .next { s with marks := s.marks ++ [⟨i, k, c⟩] } ∧
    exec (.reportProgress i) s = .next { s with progress := some i }

/-! Scan, Reset, Request (42_scan_reset_request.md).  Each step runs in any PHASE but HALTED when it is executed by itself
(log 10, DESIGN CHOICE); the halted state after TraceExhausted is decision D14's. -/

/-- The SCAN step (42_scan_reset_request.md section 2): the stop test first, then one master sample from either clock level, the
push and the choice; with TraceExhausted nothing is pushed.  The spec's own choices in it: the stop test and the halt with cause
Stopped, decision D13; the halted state after TraceExhausted, decision D14; the eight entries of the tracker, decision D11; the
marker's channel, decision D7.  That SCAN runs in any PHASE but HALTED is log 10 (DESIGN CHOICE). -/
def Obligations.ScanSamplesPushesAndChooses : Prop :=
  ∀ s : State, s.Running →
    (s.stopreq = true → exec .scan s = .next { s with phase := .halted, hcause := .stopped }) ∧
    (∀ r, s.stopreq = false → s.clk.lvl = 0#1 → s.mem.clkt.nextEdge s.clk.pos = some r → s.dio.pos ≤ r →
      exec .scan s = .next (scannedAt s r)) ∧
    (∀ f r, s.stopreq = false → s.clk.lvl = 1#1 → s.mem.clkt.nextEdge s.clk.pos = some f →
      s.mem.clkt.nextEdge f = some r → s.dio.pos ≤ r → exec .scan s = .next (scannedAt s r)) ∧
    (s.stopreq = false → s.mem.clkt.nextEdge s.clk.pos = none → exec .scan s = .next (s.exhaustedAt s.clk)) ∧
    (∀ f, s.stopreq = false → s.clk.lvl = 1#1 → s.mem.clkt.nextEdge s.clk.pos = some f → s.mem.clkt.nextEdge f = none →
      exec .scan s = .next (s.exhaustedAt ⟨f, 0#1⟩))

/-- RESET_CLOSE and the pattern RESET (42_scan_reset_request.md section 3; start sample by decision D11; that the pattern row
runs the decode step is log 8). -/
def Obligations.ResetCloseEmitsResetFrame : Prop :=
  ∀ s : State, s.Running →
    (∀ e, s.mem.clkt.nextEdge s.clk.pos = some e → s.dio.pos ≤ e →
      exec .resetClose s = .next (resetClosedAt s e (s.win.extractLsb' 0 8)) ∧
      exec .reset s = .next (resetClosedAt s e 0x00#8)) ∧
    (s.mem.clkt.nextEdge s.clk.pos = none →
      exec .resetClose s = .next (s.exhaustedAt s.clk) ∧ exec .reset s = .next (s.exhaustedAt s.clk))

/-- REQ_CLOSE and the patterns REQUEST.R and REQUEST.W (42_scan_reset_request.md section 4; decisions D11, D17; that the
pattern rows run the decode step is log 8). -/
def Obligations.RequestCloseEmitsRequestFrame : Prop :=
  ∀ (s : State) (a d3 d2 p : Bit), s.Running →
    (∀ e, s.mem.clkt.nextEdge s.clk.pos = some e → s.dio.pos ≤ e →
      exec .reqClose s = .next (requestClosedAt s e (s.win.extractLsb' 0 8)) ∧
      exec (.requestR a d3 d2 p) s = .next (requestClosedAt s e (requestByte a 1#1 d3 d2 p)) ∧
      exec (.requestW a d3 d2 p) s = .next (requestClosedAt s e (requestByte a 0#1 d3 d2 p))) ∧
    (s.mem.clkt.nextEdge s.clk.pos = none →
      exec .reqClose s = .next (s.exhaustedAt s.clk) ∧
      exec (.requestR a d3 d2 p) s = .next (s.exhaustedAt s.clk) ∧
      exec (.requestW a d3 d2 p) s = .next (s.exhaustedAt s.clk))

/-- Request parity (60_exceptions.md section 3): a REQ_CLOSE that completes appends exactly one ParityError marker at TRK[2]
when the five bits 6 to 2 hold an odd number of set bits and none otherwise, and in both cases emits the Request frame with the
raw byte, takes TT from bit 5 and goes on to the transaction.  The frame's range, TRK[7] to the closing edge, and the marker's
index are decision D11's. -/
def Obligations.RequestParityIsReportedOnly : Prop :=
  ∀ (s : State) (e : Nat), s.Running → s.mem.clkt.nextEdge s.clk.pos = some e → s.dio.pos ≤ e →
    ∃ t, exec .reqClose s = .next t ∧
      (bitAt (lowByte s) 6 ^^^ bitAt (lowByte s) 5 ^^^ bitAt (lowByte s) 4 ^^^ bitAt (lowByte s) 3 ^^^ bitAt (lowByte s) 2
          = 1#1 →
        t.marks = s.marks ++ [⟨s.trk.t2, .parityError, .dio⟩]) ∧
      (bitAt (lowByte s) 6 ^^^ bitAt (lowByte s) 5 ^^^ bitAt (lowByte s) 4 ^^^ bitAt (lowByte s) 3 ^^^ bitAt (lowByte s) 2
          = 0#1 →
        t.marks = s.marks) ∧
      t.frames = s.frames ++ [⟨.request, (lowByte s).setWidth 64, s.trk.t7, e, 0#8⟩] ∧
      t.tt.code = bitAt (lowByte s) 5 ∧ t.phase = .turn1

/-- NOFRAME: a byte that matches neither pattern leaves PHASE at SCAN and produces nothing (30_encoding.md section 8; that the
row is executed by itself is log 8). -/
def Obligations.UnmatchedByteProducesNothing : Prop :=
  ∀ (s : State) (b : Byte), s.Running → exec (.noframe b) s = .next { s with phase := .scan }

/-! The transaction (43_transaction.md).  As above: each step in any PHASE but HALTED is log 10 (DESIGN CHOICE), and the halted
state after TraceExhausted is decision D14's. -/

/-- TURN1 (decision D24), TURN2 and TURN3 (43_transaction.md section 1): two transitions, then ACKW and BITCNT cleared, nothing,
or the window cleared; TraceExhausted from either NEXT_EDGE.  The format TURN is the two transitions alone
(30_encoding.md section 6; log 8). -/
def Obligations.TurnaroundStepsAdvanceThePhase : Prop :=
  ∀ s : State, s.Running →
    (∀ a b, s.mem.clkt.nextEdge s.clk.pos = some a → s.mem.clkt.nextEdge a = some b → s.dio.pos ≤ b →
      exec .turn1 s = .next { s.movedTo b s.clk.lvl with ackw := 0#3, bitcnt := 0, phase := .ack } ∧
      exec .turn2 s = .next { s.movedTo b s.clk.lvl with phase := .data } ∧
      exec .turn3 s = .next
        { s.movedTo b s.clk.lvl with win := 0#32, wcnt := 0, trk := ⟨0, 0, 0, 0, 0, 0, 0, 0⟩, phase := .scan } ∧
      exec .turn s = .next (s.movedTo b s.clk.lvl)) ∧
    (s.mem.clkt.nextEdge s.clk.pos = none →
      exec .turn1 s = .next (s.exhaustedAt s.clk) ∧ exec .turn2 s = .next (s.exhaustedAt s.clk) ∧
      exec .turn3 s = .next (s.exhaustedAt s.clk) ∧ exec .turn s = .next (s.exhaustedAt s.clk)) ∧
    (∀ a, s.mem.clkt.nextEdge s.clk.pos = some a → s.mem.clkt.nextEdge a = none →
      exec .turn1 s = .next (s.exhaustedAt ⟨a, s.clk.lvl ^^^ 1#1⟩) ∧
      exec .turn2 s = .next (s.exhaustedAt ⟨a, s.clk.lvl ^^^ 1#1⟩) ∧
      exec .turn3 s = .next (s.exhaustedAt ⟨a, s.clk.lvl ^^^ 1#1⟩) ∧
      exec .turn s = .next (s.exhaustedAt ⟨a, s.clk.lvl ^^^ 1#1⟩))

/-- ACK (43_transaction.md section 1; decisions D9, D12): one slave sample shifted into ACKW, from either clock level, and
TraceExhausted from each NEXT_EDGE. -/
def Obligations.AckStepShiftsOneSlaveSample : Prop :=
  ∀ s : State, s.Running →
    (∀ r f, s.clk.lvl = 0#1 → s.mem.clkt.nextEdge s.clk.pos = some r → s.mem.clkt.nextEdge r = some f → s.dio.pos ≤ f →
      exec .ack s = .next (ackSampledAt s f)) ∧
    (∀ d r f, s.clk.lvl = 1#1 → s.mem.clkt.nextEdge s.clk.pos = some d → s.mem.clkt.nextEdge d = some r →
      s.mem.clkt.nextEdge r = some f → s.dio.pos ≤ f → exec .ack s = .next (ackSampledAt s f)) ∧
    (s.mem.clkt.nextEdge s.clk.pos = none → exec .ack s = .next (s.exhaustedAt s.clk)) ∧
    (∀ r, s.clk.lvl = 0#1 → s.mem.clkt.nextEdge s.clk.pos = some r → s.mem.clkt.nextEdge r = none →
      exec .ack s = .next (s.exhaustedAt ⟨r, 1#1⟩)) ∧
    (∀ d, s.clk.lvl = 1#1 → s.mem.clkt.nextEdge s.clk.pos = some d → s.mem.clkt.nextEdge d = none →
      exec .ack s = .next (s.exhaustedAt ⟨d, 0#1⟩)) ∧
    (∀ d r, s.clk.lvl = 1#1 → s.mem.clkt.nextEdge s.clk.pos = some d → s.mem.clkt.nextEdge d = some r →
      s.mem.clkt.nextEdge r = none → exec .ack s = .next (s.exhaustedAt ⟨r, 1#1⟩))

/-- ACK_CLOSE and the acknowledge values ACK.OK, ACK.WAIT, ACK.FAULT, ACK.OTHER (43_transaction.md sections 1 and 2; frame range
by decision D12; log 8): the value goes into the frame and selects nothing. -/
def Obligations.AckCloseEmitsAckFrameWhateverTheValue : Prop :=
  ∀ (s : State) (v : BitVec 3), s.Running →
    (∀ e, s.mem.clkt.nextEdge s.clk.pos = some e → s.dio.pos ≤ e →
      exec .ackClose s = .next (ackClosedAt s e s.ackw) ∧
      exec .ackOk s = .next (ackClosedAt s e 1#3) ∧
      exec .ackWait s = .next (ackClosedAt s e 2#3) ∧
      exec .ackFault s = .next (ackClosedAt s e 4#3) ∧
      exec (.ackOther v) s = .next (ackClosedAt s e v)) ∧
    (s.mem.clkt.nextEdge s.clk.pos = none →
      exec .ackClose s = .next (s.exhaustedAt s.clk) ∧ exec .ackOk s = .next (s.exhaustedAt s.clk) ∧
      exec .ackWait s = .next (s.exhaustedAt s.clk) ∧ exec .ackFault s = .next (s.exhaustedAt s.clk) ∧
      exec (.ackOther v) s = .next (s.exhaustedAt s.clk))

/-- DATA (43_transaction.md section 1; decisions D9, D12): one slave sample for a Read and one master sample for a Write, from
either clock level, shifted into DATW; TraceExhausted where the clock has no transition left. -/
def Obligations.DataStepSamplesOnTheDrivingSide : Prop :=
  ∀ s : State, s.Running →
    (∀ r f, s.tt = .read → s.clk.lvl = 0#1 → s.mem.clkt.nextEdge s.clk.pos = some r → s.mem.clkt.nextEdge r = some f →
      s.dio.pos ≤ f → exec .data s = .next (dataSampledAt s f 0#1 .slaveSample)) ∧
    (∀ d r f, s.tt = .read → s.clk.lvl = 1#1 → s.mem.clkt.nextEdge s.clk.pos = some d → s.mem.clkt.nextEdge d = some r →
      s.mem.clkt.nextEdge r = some f → s.dio.pos ≤ f → exec .data s = .next (dataSampledAt s f 0#1 .slaveSample)) ∧
    (∀ r, s.tt = .write → s.clk.lvl = 0#1 → s.mem.clkt.nextEdge s.clk.pos = some r → s.dio.pos ≤ r →
      exec .data s = .next (dataSampledAt s r 1#1 .masterSample)) ∧
    (∀ f r, s.tt = .write → s.clk.lvl = 1#1 → s.mem.clkt.nextEdge s.clk.pos = some f → s.mem.clkt.nextEdge f = some r →
      s.dio.pos ≤ r → exec .data s = .next (dataSampledAt s r 1#1 .masterSample)) ∧
    (s.mem.clkt.nextEdge s.clk.pos = none → exec .data s = .next (s.exhaustedAt s.clk))

/-- DATA_CLOSE and the formats DATA.R and DATA.W (43_transaction.md section 1; frame range by decision D12, order by D17;
log 8). -/
def Obligations.DataCloseEmitsReadOrWriteFrame : Prop :=
  ∀ (s : State) (d : BitVec 32) (p : Bit), s.Running →
    (∀ e, s.mem.clkt.nextEdge s.clk.pos = some e → s.dio.pos ≤ e →
      (s.tt = .read → exec .dataClose s = .next (readClosedAt s e s.datw)) ∧
      (s.tt = .write → exec .dataClose s = .next (writeClosedAt s e s.datw)) ∧
      exec (.dataR d p) s = .next (readClosedAt s e (d ++ p)) ∧
      exec (.dataW d p) s = .next (writeClosedAt s e (d ++ p))) ∧
    (s.mem.clkt.nextEdge s.clk.pos = none →
      exec .dataClose s = .next (s.exhaustedAt s.clk) ∧ exec (.dataR d p) s = .next (s.exhaustedAt s.clk) ∧
      exec (.dataW d p) s = .next (s.exhaustedAt s.clk))

/-- Data parity (60_exceptions.md section 3): a DATA_CLOSE that completes appends exactly one ParityError marker at PARPOS when
an odd number of the 33 bits is set and none otherwise, for Read and Write alike; the frame is emitted whatever the parity, and a
Read's third turnaround still follows.  The frame's range, SUBSTART to the closing edge, is decision D12's. -/
def Obligations.DataParityIsReportedOnly : Prop :=
  ∀ (s : State) (e : Nat), s.Running → s.mem.clkt.nextEdge s.clk.pos = some e → s.dio.pos ≤ e →
    ∃ t, exec .dataClose s = .next t ∧
      (setBits s.datw.toNat 32 0 % 2 = 1 → t.marks = s.marks ++ [⟨s.parpos, .parityError, .dio⟩]) ∧
      (setBits s.datw.toNat 32 0 % 2 = 0 → t.marks = s.marks) ∧
      (s.tt = .read → t.frames = s.frames ++ [⟨.read, s.datw.setWidth 64, s.substart, e, 0#8⟩] ∧ t.phase = .turn3) ∧
      (s.tt = .write → t.frames = s.frames ++ [⟨.write, s.datw.setWidth 64, s.substart, e, 0#8⟩] ∧ t.phase = .scan)

/-! The step. -/

/-- A step gives the host its turn and runs the operation the PHASE code decodes to, and in HALTED there is no step; the
operation STEP is that operation alone (42_scan_reset_request.md section 1; that HALTED is a fault is log 3, that the host's turn
comes first is log 17). -/
def Obligations.StepRunsTheDecodedOperation : Prop :=
  ∀ s : State,
    (∀ i, decode (.phase s.phase.code) = .ok i → step s = exec i s.hostMoved ∧ exec .step s = exec i s) ∧
    (decode (.phase s.phase.code) = .error .haltedPhase ↔ s.phase = .halted) ∧
    (s.phase = .halted → step s = .fault .halted)

/-- STEP completes: in each of the ten running PHASEs, with the cursors in lockstep, it has a next state, the step's own rule is
the one run, and the machine's step, with the host's turn before it, has one too (42_scan_reset_request.md section 1; log 17). -/
def Obligations.StepOperationCompletesInEveryPhase : Prop :=
  ∀ s : State, s.Running → s.dio.pos ≤ s.clk.pos →
    (∃ u, step s = .next u) ∧ ∃ t, exec .step s = .next t ∧
      (s.phase = .scan → exec .scan s = .next t) ∧ (s.phase = .resetClose → exec .resetClose s = .next t) ∧
      (s.phase = .reqClose → exec .reqClose s = .next t) ∧ (s.phase = .turn1 → exec .turn1 s = .next t) ∧
      (s.phase = .ack → exec .ack s = .next t) ∧ (s.phase = .ackClose → exec .ackClose s = .next t) ∧
      (s.phase = .turn2 → exec .turn2 s = .next t) ∧ (s.phase = .data → exec .data s = .next t) ∧
      (s.phase = .dataClose → exec .dataClose s = .next t) ∧ (s.phase = .turn3 → exec .turn3 s = .next t)

/-- A closing step runs the format its assembled content decodes to: the Reset or Request byte in WIN, the acknowledge in ACKW,
the data sub-frame in DATW under TT (30_encoding.md sections 3 to 6; log 8); the host's turn comes first (log 17). -/
def Obligations.ClosingStepRunsTheAssembledFormat : Prop :=
  ∀ (s : State) (w : Word) (i : Instr), ControlOk s → pendingWord s = some w → decode w = .ok i →
    step s = exec i s.hostMoved

/-- R224: HALTED is terminal: no operation leaves it, whatever its operands. -/
def Obligations.NothingRunsWhenHalted : Prop :=
  ∀ (i : Instr) (s : State), s.phase = .halted → exec i s = .fault .halted ∧ step s = .fault .halted

/-- How a running decoder halts: an honoured stop at the top of a SCAN step, with nothing else changed, or TraceExhausted, with
the clock cursor at the last transition and nothing else changed (60_exceptions.md sections 2 and 4; decisions D13, D14); the
host's turn before the step may set STOPREQ (log 17). -/
def Obligations.HaltingIsPreciseAndHasTwoCauses : Prop :=
  ∀ s t : State, step s = .next t → t.phase = .halted →
    (s.phase = .scan ∧ s.hostMoved.stopreq = true ∧ t = { s.hostMoved with phase := .halted, hcause := .stopped }) ∨
    (¬ (s.phase = .scan ∧ s.hostMoved.stopreq = true) ∧ s.clk.pos ≤ t.clk.pos ∧
      s.mem.clkt.nextEdge t.clk.pos = none ∧ t = s.hostMoved.exhaustedAt t.clk)

/-- The stop request is looked at in SCAN and nowhere else: in any other PHASE a step with STOPREQ set does what it does
without (60_exceptions.md section 4; decision D13). -/
def Obligations.StopRequestWaitsForScan : Prop :=
  ∀ s t : State, s.phase ≠ .scan → step s = .next t → step s.requestStop = .next t.requestStop

/-! Whole-machine rules. -/

/-- R62: nothing the decoder does changes a trace. -/
def Obligations.NoOperationChangesATrace : Prop :=
  ∀ (i : Instr) (s t : State), exec i s = .next t → t.mem = s.mem

/-- Cursors never move backward, the frame and annotation sinks only grow, and STOPREQ is the host's alone: no operation writes
it, and in DECODE, a whole run, it is set only where the host's moment has come (10_state.md sections 2, 5 and 6; log 17). -/
def Obligations.CursorsAdvanceAndSinksOnlyGrow : Prop :=
  ∀ (i : Instr) (s t : State), exec i s = .next t →
    s.clk.pos ≤ t.clk.pos ∧ s.dio.pos ≤ t.dio.pos ∧ s.frames <+: t.frames ∧ s.marks <+: t.marks ∧ t.stopAt = s.stopAt ∧
    (t.stopreq = s.stopreq ∨ i = .decode ∧ t.stopreq = true ∧ ∃ p, s.stopAt = some p ∧ p ≤ t.clk.pos)

/-- WIN[31:8] influence nothing: two states that differ only there step to states that differ only there
(10_state.md section 7, derived there). -/
def Obligations.HighWindowBitsAreUnobservable : Prop :=
  ∀ (s t : State) (w : BitVec 32), w.extractLsb' 0 8 = s.win.extractLsb' 0 8 → step s = .next t →
    ∃ x : BitVec 32, x.extractLsb' 0 8 = t.win.extractLsb' 0 8 ∧ step { s with win := w } = .next { t with win := x }

/-! Invariants that every step keeps. -/

/-- The cached levels are the traces' levels at the cursors (10_state.md section 2; decisions D1, D25). -/
def Obligations.StepKeepsCursorsCoherent : Prop :=
  ∀ s t : State, Coherent s → step s = .next t → Coherent t

/-- R24: after every composite operation that completes the data cursor is at the clock cursor; between steps they are in
lockstep in every PHASE but HALTED, where the data cursor may be behind and is never ahead. -/
def Obligations.StepKeepsLockstep : Prop :=
  (∀ (i : Instr) (s t : State), i = .advMaster ∨ i = .advSlave ∨ i = .advEdge ∨ i = .advTurn →
    exec i s = .next t → t.Running → t.dio.pos = t.clk.pos) ∧
  (∀ s t : State, Lockstep s → step s = .next t → Lockstep t)

/-- HCAUSE is None exactly when PHASE is not HALTED (10_state.md section 5; decision D14). -/
def Obligations.StepKeepsHaltCause : Prop :=
  ∀ s t : State, CauseOk s → step s = .next t → CauseOk t

/-- WCNT stays within the capacity, and TRK[i] stays the index at which bit i of the low byte was sampled
(10_state.md section 3; decision D11). -/
def Obligations.StepKeepsWindowTracked : Prop :=
  ∀ s t : State, WindowOk s → step s = .next t → WindowOk t

/-- Each step is entered with its pattern matched, its clock level, its direction and its bit count
(43_transaction.md section 2, derived there). -/
def Obligations.StepKeepsControl : Prop :=
  ∀ s t : State, ControlOk s → step s = .next t → ControlOk t

/-- R45: frame ranges stay disjoint and strictly increasing; with them, every frame stays one the block can emit and PROGRESS
stays the last one's end. -/
def Obligations.StepKeepsFramesOrdered : Prop :=
  ∀ s t : State, ControlOk s → FramesOk s → step s = .next t → FramesOk t

/-- Sample markers stay at strictly increasing indices and every marker stays one the block can produce
(60_exceptions.md section 6; decisions D6, D7). -/
def Obligations.StepKeepsMarksOrdered : Prop :=
  ∀ s t : State, MarksOk s → step s = .next t → MarksOk t

/-- Creation gives the reset values of 10_state.md section 10 (decisions D2, D19) and meets every invariant; the host's move and
its choice of when to make it (log 17) keep them.  State.reset is the creation on two traces without transitions (log 1). -/
def Obligations.CreationMeetsTheInvariants : Prop :=
  (∀ c d : Trace, c.wf → d.wf → Inv (State.created c d)) ∧
  (∀ (s : State) (p : Option Nat), Inv s → Inv s.requestStop ∧ Inv (s.scheduleStop p)) ∧
  State.reset = State.created ⟨0#1, []⟩ ⟨0#1, []⟩

/-! Runs. -/

/-- With the cursors in lockstep every running state has a next state, no backward move is ever asked for, and a step that does
not halt takes at least one clock transition (42_scan_reset_request.md section 1). -/
def Obligations.EveryStepCompletesAndConsumesTheClock : Prop :=
  ∀ s : State, Lockstep s → s.Running →
    ∃ t, step s = .next t ∧ Lockstep t ∧ (t.Running → t.remaining < s.remaining)

/-- Every run ends halted, within one step more than the clock has transitions left (42_scan_reset_request.md section 6). -/
def Obligations.EveryRunHalts : Prop :=
  ∀ s : State, Lockstep s → ∃ k t, k ≤ s.remaining + 1 ∧ Sys2Proof.core.run k s = .next t ∧ t.phase = .halted

/-- A Read transaction, from REQ_CLOSE: 41 steps and 80 clock transitions, exactly one Request, one Ack and one Read frame in
that order, with every sample point where 43_transaction.md section 2 puts it (decisions D9, D11, D12). -/
def Obligations.ReadTransactionLandsAsSpecified : Prop :=
  ∀ s : State, Inv s → s.phase = .reqClose → bitAt (lowByte s) 5 = 1#1 → 80 ≤ s.later.length →
    ∃ t, Sys2Proof.core.run 41 s = .next t ∧ Inv t ∧ t.phase = .scan ∧ t.wcnt = 0 ∧
      t.clk = ⟨s.laterAt 79, 1#1⟩ ∧
      t.frames = s.frames ++
        [⟨.request, (lowByte s).setWidth 64, s.trk.t7, s.laterAt 0, 0#8⟩,
         ⟨.ack, BitVec.ofNat 64 (bitsValue (s.levelsFrom 4 3)), s.laterAt 4, s.laterAt 9, 0#8⟩,
         ⟨.read, BitVec.ofNat 64 (bitsValue (s.levelsFrom 12 33)), s.laterAt 12, s.laterAt 77, 0#8⟩]

/-- A Write transaction, from REQ_CLOSE: 41 steps and 79 clock transitions, exactly one Request, one Ack and one Write frame in
that order, with every sample point where 43_transaction.md section 2 puts it (decisions D9, D11, D12; log 13). -/
def Obligations.WriteTransactionLandsAsSpecified : Prop :=
  ∀ s : State, Inv s → s.phase = .reqClose → bitAt (lowByte s) 5 = 0#1 → 79 ≤ s.later.length →
    ∃ t, Sys2Proof.core.run 41 s = .next t ∧ Inv t ∧ t.phase = .scan ∧ t.wcnt = 0 ∧
      t.clk = ⟨s.laterAt 78, 0#1⟩ ∧
      t.frames = s.frames ++
        [⟨.request, (lowByte s).setWidth 64, s.trk.t7, s.laterAt 0, 0#8⟩,
         ⟨.ack, BitVec.ofNat 64 (bitsValue (s.levelsFrom 4 3)), s.laterAt 4, s.laterAt 9, 0#8⟩,
         ⟨.write, BitVec.ofNat 64 (bitsValue (s.levelsFrom 13 33)), s.laterAt 13, s.laterAt 78, 0#8⟩]

/-- DISPATCH completes when the clock has 80 transitions left: one Ack frame and one Read or Write frame, in the direction of
TT and whatever the bits; PHASE, BITCNT, WIN, TRK and TT are untouched (43_transaction.md section 2; log 11). -/
def Obligations.DispatchEmitsAckAndDataFrame : Prop :=
  ∀ s : State, s.Running → s.mem.wf → s.dio.pos ≤ s.clk.pos → 80 ≤ s.later.length →
    ∃ t a d, exec .dispatch s = .next t ∧ t.frames = s.frames ++ [a, d] ∧
      a.type = .ack ∧ d.type = (if s.tt = .read then .read else .write) ∧
      a.startSample ≤ a.endSample ∧ a.endSample < d.startSample ∧ d.startSample ≤ d.endSample ∧
      s.clk.pos < a.startSample ∧ d.endSample ≤ t.clk.pos ∧ t.dio.pos = t.clk.pos ∧
      t.progress = some d.endSample ∧
      (t.phase, t.bitcnt, t.win, t.wcnt, t.trk, t.tt, t.hcause, t.stopreq, t.stopAt, t.ret, t.mem)
        = (s.phase, s.bitcnt, s.win, s.wcnt, s.trk, s.tt, s.hcause, s.stopreq, s.stopAt, s.ret, s.mem)

/-- DECODE completes and ends halted, whenever the host makes its move, if ever: at once and with nothing else changed when
STOPREQ is set or due; else Stopped at the top of a later pass, in lockstep, once the host's moment has come, or TraceExhausted
when the clock has no transition left, and always so for a host that never moves (42_scan_reset_request.md section 6,
60_exceptions.md section 4; decision D13; logs 12, 17). -/
def Obligations.DecodeEndsHalted : Prop :=
  ∀ s : State, s.Running → s.dio.pos ≤ s.clk.pos →
    (s.hostMoved.stopreq = true → exec .decode s = .next { s.hostMoved with phase := .halted, hcause := .stopped }) ∧
    (s.hostMoved.stopreq = false → ∃ t, exec .decode s = .next t ∧ t.phase = .halted ∧ s.clk.pos ≤ t.clk.pos ∧ t.mem = s.mem ∧
      (t.hcause = .stopped ∧ t.stopreq = true ∧ t.dio.pos = t.clk.pos ∧ (∃ p, s.stopAt = some p ∧ p ≤ t.clk.pos) ∨
        t.hcause = .traceExhausted ∧ t.stopreq = false ∧ s.mem.clkt.nextEdge t.clk.pos = none) ∧
      (s.stopAt = none → t.hcause = .traceExhausted))

/-- The big-step form and the iterated step agree, whenever the host makes its move, if ever: DECODE from a SCAN state leaves
what stepping to the halt leaves, but for BITCNT and DATW, which the big-step form does not keep in step; the host's turn stands
at the end of both, because a moment that comes inside the last pass is seen only there (42_scan_reset_request.md section 6,
derived there; logs 11, 17). -/
def Obligations.DecodeEqualsIteratedSteps : Prop :=
  ∀ s : State, Inv s → s.phase = .scan →
    ∃ t u k, exec .decode s = .next t ∧ Sys2Proof.core.run k s = .next u ∧ u.phase = .halted ∧
      { t.hostMoved with bitcnt := 0, datw := 0#33 } = { u.hostMoved with bitcnt := 0, datw := 0#33 }

/-! Encodings (30_encoding.md, 10_state.md R34). -/

/-- Decoding the encoding of a well-formed operation gives it back, with every operand. -/
def Obligations.DecodeOfEncodeGivesTheOperation : Prop :=
  ∀ (i : Instr) (w : Word), i.wf = true → encode i = some w → decode w = .ok i

/-- No two raw contents decode to one operation, and what the decoder gives is well-formed: the encoder gives back the content
that was decoded. -/
def Obligations.EncodeOfDecodeGivesTheWord : Prop :=
  ∀ (i : Instr) (w : Word), decode w = .ok i → i.wf = true ∧ encode i = some w

/-- Words written out bit by bit from 30_encoding.md R92 to R99 and 10_state.md R34. -/
def Obligations.WrittenOutWordsDecode : Prop :=
  decode (.window 0b00000000#8) = .ok .reset ∧
  decode (.window 0b10101001#8) = .ok (.requestR 0#1 0#1 1#1 0#1) ∧
  decode (.window 0b10010101#8) = .ok (.requestW 0#1 1#1 0#1 1#1) ∧
  decode (.window 0b11111110#8) = .ok (.noframe 0b11111110#8) ∧
  decode (.ack 0b001#3) = .ok .ackOk ∧
  decode (.data 1#1 0b110111101010110110111110111011110#33) = .ok (.dataR 0xDEADBEEF#32 0#1) ∧
  decode (.phase 0b0111#4) = .ok .data

/-! The host's stop request (60_exceptions.md section 4). -/

/-- The host may make its move at any moment: stepping to any running state, setting STOPREQ there and going on is the run of a
host that chose that moment from the start (60_exceptions.md section 4; decision D13; log 17). -/
def Obligations.HostMayStopAtAnyMoment : Prop :=
  ∀ (s u v : State) (k m : Nat), s.stopAt = none → Sys2Proof.core.run k s = .next u → u.Running →
    Sys2Proof.core.run (m + 1) u.requestStop = .next v →
    Sys2Proof.core.run (k + (m + 1)) (s.scheduleStop (some u.clk.pos)) = .next (v.scheduleStop (some u.clk.pos))

/-- Whenever the host makes its move, if ever, the run halts: Stopped, in lockstep, at a SCAN step the move has reached, or
TraceExhausted with no transition left (60_exceptions.md sections 2 and 4, 42_scan_reset_request.md section 6; decisions D13, D14;
log 17). -/
def Obligations.RunsEndByStopOrTraceEnd : Prop :=
  ∀ s : State, Lockstep s → s.Running →
    ∃ k u, Sys2Proof.core.run k s = .next u ∧ u.phase = .halted ∧ u.stopAt = s.stopAt ∧
      (u.hcause = .stopped ∧ u.dio.pos = u.clk.pos ∧ (s.stopreq = true ∨ ∃ p, s.stopAt = some p ∧ p ≤ u.clk.pos) ∨
        u.hcause = .traceExhausted ∧ u.mem.clkt.nextEdge u.clk.pos = none)
end

