-- ==== Sys2Proof/Laws/State.lean ====
section
/-! SUPPORT. What each named register update leaves in each field: one lemma per field per update. -/

namespace Sys2Proof.Machine

variable (s : State)

@[simp] theorem State.setClk_mem (c : Cursor) : (s.setClk c).mem = s.mem := rfl
@[simp] theorem State.setClk_clk (c : Cursor) : (s.setClk c).clk = c := rfl
@[simp] theorem State.setClk_dio (c : Cursor) : (s.setClk c).dio = s.dio := rfl
@[simp] theorem State.setClk_win (c : Cursor) : (s.setClk c).win = s.win := rfl
@[simp] theorem State.setClk_wcnt (c : Cursor) : (s.setClk c).wcnt = s.wcnt := rfl
@[simp] theorem State.setClk_trk (c : Cursor) : (s.setClk c).trk = s.trk := rfl
@[simp] theorem State.setClk_ackw (c : Cursor) : (s.setClk c).ackw = s.ackw := rfl
@[simp] theorem State.setClk_datw (c : Cursor) : (s.setClk c).datw = s.datw := rfl
@[simp] theorem State.setClk_bitcnt (c : Cursor) : (s.setClk c).bitcnt = s.bitcnt := rfl
@[simp] theorem State.setClk_substart (c : Cursor) : (s.setClk c).substart = s.substart := rfl
@[simp] theorem State.setClk_parpos (c : Cursor) : (s.setClk c).parpos = s.parpos := rfl
@[simp] theorem State.setClk_tt (c : Cursor) : (s.setClk c).tt = s.tt := rfl
@[simp] theorem State.setClk_phase (c : Cursor) : (s.setClk c).phase = s.phase := rfl
@[simp] theorem State.setClk_hcause (c : Cursor) : (s.setClk c).hcause = s.hcause := rfl
@[simp] theorem State.setClk_stopreq (c : Cursor) : (s.setClk c).stopreq = s.stopreq := rfl
@[simp] theorem State.setClk_stopAt (c : Cursor) : (s.setClk c).stopAt = s.stopAt := rfl
@[simp] theorem State.setClk_frames (c : Cursor) : (s.setClk c).frames = s.frames := rfl
@[simp] theorem State.setClk_marks (c : Cursor) : (s.setClk c).marks = s.marks := rfl
@[simp] theorem State.setClk_progress (c : Cursor) : (s.setClk c).progress = s.progress := rfl
@[simp] theorem State.setClk_ret (c : Cursor) : (s.setClk c).ret = s.ret := rfl

@[simp] theorem State.setDio_mem (c : Cursor) : (s.setDio c).mem = s.mem := rfl
@[simp] theorem State.setDio_clk (c : Cursor) : (s.setDio c).clk = s.clk := rfl
@[simp] theorem State.setDio_dio (c : Cursor) : (s.setDio c).dio = c := rfl
@[simp] theorem State.setDio_win (c : Cursor) : (s.setDio c).win = s.win := rfl
@[simp] theorem State.setDio_wcnt (c : Cursor) : (s.setDio c).wcnt = s.wcnt := rfl
@[simp] theorem State.setDio_trk (c : Cursor) : (s.setDio c).trk = s.trk := rfl
@[simp] theorem State.setDio_ackw (c : Cursor) : (s.setDio c).ackw = s.ackw := rfl
@[simp] theorem State.setDio_datw (c : Cursor) : (s.setDio c).datw = s.datw := rfl
@[simp] theorem State.setDio_bitcnt (c : Cursor) : (s.setDio c).bitcnt = s.bitcnt := rfl
@[simp] theorem State.setDio_substart (c : Cursor) : (s.setDio c).substart = s.substart := rfl
@[simp] theorem State.setDio_parpos (c : Cursor) : (s.setDio c).parpos = s.parpos := rfl
@[simp] theorem State.setDio_tt (c : Cursor) : (s.setDio c).tt = s.tt := rfl
@[simp] theorem State.setDio_phase (c : Cursor) : (s.setDio c).phase = s.phase := rfl
@[simp] theorem State.setDio_hcause (c : Cursor) : (s.setDio c).hcause = s.hcause := rfl
@[simp] theorem State.setDio_stopreq (c : Cursor) : (s.setDio c).stopreq = s.stopreq := rfl
@[simp] theorem State.setDio_stopAt (c : Cursor) : (s.setDio c).stopAt = s.stopAt := rfl
@[simp] theorem State.setDio_frames (c : Cursor) : (s.setDio c).frames = s.frames := rfl
@[simp] theorem State.setDio_marks (c : Cursor) : (s.setDio c).marks = s.marks := rfl
@[simp] theorem State.setDio_progress (c : Cursor) : (s.setDio c).progress = s.progress := rfl
@[simp] theorem State.setDio_ret (c : Cursor) : (s.setDio c).ret = s.ret := rfl

@[simp] theorem State.setWindow_mem (w : BitVec 32) (n : Nat) (t : Tracker) : (s.setWindow w n t).mem = s.mem := rfl
@[simp] theorem State.setWindow_clk (w : BitVec 32) (n : Nat) (t : Tracker) : (s.setWindow w n t).clk = s.clk := rfl
@[simp] theorem State.setWindow_dio (w : BitVec 32) (n : Nat) (t : Tracker) : (s.setWindow w n t).dio = s.dio := rfl
@[simp] theorem State.setWindow_win (w : BitVec 32) (n : Nat) (t : Tracker) : (s.setWindow w n t).win = w := rfl
@[simp] theorem State.setWindow_wcnt (w : BitVec 32) (n : Nat) (t : Tracker) : (s.setWindow w n t).wcnt = n := rfl
@[simp] theorem State.setWindow_trk (w : BitVec 32) (n : Nat) (t : Tracker) : (s.setWindow w n t).trk = t := rfl
@[simp] theorem State.setWindow_ackw (w : BitVec 32) (n : Nat) (t : Tracker) : (s.setWindow w n t).ackw = s.ackw := rfl
@[simp] theorem State.setWindow_datw (w : BitVec 32) (n : Nat) (t : Tracker) : (s.setWindow w n t).datw = s.datw := rfl
@[simp] theorem State.setWindow_bitcnt (w : BitVec 32) (n : Nat) (t : Tracker) : (s.setWindow w n t).bitcnt = s.bitcnt := rfl
@[simp] theorem State.setWindow_substart (w : BitVec 32) (n : Nat) (t : Tracker) : (s.setWindow w n t).substart = s.substart := rfl
@[simp] theorem State.setWindow_parpos (w : BitVec 32) (n : Nat) (t : Tracker) : (s.setWindow w n t).parpos = s.parpos := rfl
@[simp] theorem State.setWindow_tt (w : BitVec 32) (n : Nat) (t : Tracker) : (s.setWindow w n t).tt = s.tt := rfl
@[simp] theorem State.setWindow_phase (w : BitVec 32) (n : Nat) (t : Tracker) : (s.setWindow w n t).phase = s.phase := rfl
@[simp] theorem State.setWindow_hcause (w : BitVec 32) (n : Nat) (t : Tracker) : (s.setWindow w n t).hcause = s.hcause := rfl
@[simp] theorem State.setWindow_stopreq (w : BitVec 32) (n : Nat) (t : Tracker) : (s.setWindow w n t).stopreq = s.stopreq := rfl
@[simp] theorem State.setWindow_stopAt (w : BitVec 32) (n : Nat) (t : Tracker) : (s.setWindow w n t).stopAt = s.stopAt := rfl
@[simp] theorem State.setWindow_frames (w : BitVec 32) (n : Nat) (t : Tracker) : (s.setWindow w n t).frames = s.frames := rfl
@[simp] theorem State.setWindow_marks (w : BitVec 32) (n : Nat) (t : Tracker) : (s.setWindow w n t).marks = s.marks := rfl
@[simp] theorem State.setWindow_progress (w : BitVec 32) (n : Nat) (t : Tracker) : (s.setWindow w n t).progress = s.progress := rfl
@[simp] theorem State.setWindow_ret (w : BitVec 32) (n : Nat) (t : Tracker) : (s.setWindow w n t).ret = s.ret := rfl

@[simp] theorem State.setAckw_mem (v : BitVec 3) : (s.setAckw v).mem = s.mem := rfl
@[simp] theorem State.setAckw_clk (v : BitVec 3) : (s.setAckw v).clk = s.clk := rfl
@[simp] theorem State.setAckw_dio (v : BitVec 3) : (s.setAckw v).dio = s.dio := rfl
@[simp] theorem State.setAckw_win (v : BitVec 3) : (s.setAckw v).win = s.win := rfl
@[simp] theorem State.setAckw_wcnt (v : BitVec 3) : (s.setAckw v).wcnt = s.wcnt := rfl
@[simp] theorem State.setAckw_trk (v : BitVec 3) : (s.setAckw v).trk = s.trk := rfl
@[simp] theorem State.setAckw_ackw (v : BitVec 3) : (s.setAckw v).ackw = v := rfl
@[simp] theorem State.setAckw_datw (v : BitVec 3) : (s.setAckw v).datw = s.datw := rfl
@[simp] theorem State.setAckw_bitcnt (v : BitVec 3) : (s.setAckw v).bitcnt = s.bitcnt := rfl
@[simp] theorem State.setAckw_substart (v : BitVec 3) : (s.setAckw v).substart = s.substart := rfl
@[simp] theorem State.setAckw_parpos (v : BitVec 3) : (s.setAckw v).parpos = s.parpos := rfl
@[simp] theorem State.setAckw_tt (v : BitVec 3) : (s.setAckw v).tt = s.tt := rfl
@[simp] theorem State.setAckw_phase (v : BitVec 3) : (s.setAckw v).phase = s.phase := rfl
@[simp] theorem State.setAckw_hcause (v : BitVec 3) : (s.setAckw v).hcause = s.hcause := rfl
@[simp] theorem State.setAckw_stopreq (v : BitVec 3) : (s.setAckw v).stopreq = s.stopreq := rfl
@[simp] theorem State.setAckw_stopAt (v : BitVec 3) : (s.setAckw v).stopAt = s.stopAt := rfl
@[simp] theorem State.setAckw_frames (v : BitVec 3) : (s.setAckw v).frames = s.frames := rfl
@[simp] theorem State.setAckw_marks (v : BitVec 3) : (s.setAckw v).marks = s.marks := rfl
@[simp] theorem State.setAckw_progress (v : BitVec 3) : (s.setAckw v).progress = s.progress := rfl
@[simp] theorem State.setAckw_ret (v : BitVec 3) : (s.setAckw v).ret = s.ret := rfl

@[simp] theorem State.setDatw_mem (v : BitVec 33) : (s.setDatw v).mem = s.mem := rfl
@[simp] theorem State.setDatw_clk (v : BitVec 33) : (s.setDatw v).clk = s.clk := rfl
@[simp] theorem State.setDatw_dio (v : BitVec 33) : (s.setDatw v).dio = s.dio := rfl
@[simp] theorem State.setDatw_win (v : BitVec 33) : (s.setDatw v).win = s.win := rfl
@[simp] theorem State.setDatw_wcnt (v : BitVec 33) : (s.setDatw v).wcnt = s.wcnt := rfl
@[simp] theorem State.setDatw_trk (v : BitVec 33) : (s.setDatw v).trk = s.trk := rfl
@[simp] theorem State.setDatw_ackw (v : BitVec 33) : (s.setDatw v).ackw = s.ackw := rfl
@[simp] theorem State.setDatw_datw (v : BitVec 33) : (s.setDatw v).datw = v := rfl
@[simp] theorem State.setDatw_bitcnt (v : BitVec 33) : (s.setDatw v).bitcnt = s.bitcnt := rfl
@[simp] theorem State.setDatw_substart (v : BitVec 33) : (s.setDatw v).substart = s.substart := rfl
@[simp] theorem State.setDatw_parpos (v : BitVec 33) : (s.setDatw v).parpos = s.parpos := rfl
@[simp] theorem State.setDatw_tt (v : BitVec 33) : (s.setDatw v).tt = s.tt := rfl
@[simp] theorem State.setDatw_phase (v : BitVec 33) : (s.setDatw v).phase = s.phase := rfl
@[simp] theorem State.setDatw_hcause (v : BitVec 33) : (s.setDatw v).hcause = s.hcause := rfl
@[simp] theorem State.setDatw_stopreq (v : BitVec 33) : (s.setDatw v).stopreq = s.stopreq := rfl
@[simp] theorem State.setDatw_stopAt (v : BitVec 33) : (s.setDatw v).stopAt = s.stopAt := rfl
@[simp] theorem State.setDatw_frames (v : BitVec 33) : (s.setDatw v).frames = s.frames := rfl
@[simp] theorem State.setDatw_marks (v : BitVec 33) : (s.setDatw v).marks = s.marks := rfl
@[simp] theorem State.setDatw_progress (v : BitVec 33) : (s.setDatw v).progress = s.progress := rfl
@[simp] theorem State.setDatw_ret (v : BitVec 33) : (s.setDatw v).ret = s.ret := rfl

@[simp] theorem State.setBitcnt_mem (n : Nat) : (s.setBitcnt n).mem = s.mem := rfl
@[simp] theorem State.setBitcnt_clk (n : Nat) : (s.setBitcnt n).clk = s.clk := rfl
@[simp] theorem State.setBitcnt_dio (n : Nat) : (s.setBitcnt n).dio = s.dio := rfl
@[simp] theorem State.setBitcnt_win (n : Nat) : (s.setBitcnt n).win = s.win := rfl
@[simp] theorem State.setBitcnt_wcnt (n : Nat) : (s.setBitcnt n).wcnt = s.wcnt := rfl
@[simp] theorem State.setBitcnt_trk (n : Nat) : (s.setBitcnt n).trk = s.trk := rfl
@[simp] theorem State.setBitcnt_ackw (n : Nat) : (s.setBitcnt n).ackw = s.ackw := rfl
@[simp] theorem State.setBitcnt_datw (n : Nat) : (s.setBitcnt n).datw = s.datw := rfl
@[simp] theorem State.setBitcnt_bitcnt (n : Nat) : (s.setBitcnt n).bitcnt = n := rfl
@[simp] theorem State.setBitcnt_substart (n : Nat) : (s.setBitcnt n).substart = s.substart := rfl
@[simp] theorem State.setBitcnt_parpos (n : Nat) : (s.setBitcnt n).parpos = s.parpos := rfl
@[simp] theorem State.setBitcnt_tt (n : Nat) : (s.setBitcnt n).tt = s.tt := rfl
@[simp] theorem State.setBitcnt_phase (n : Nat) : (s.setBitcnt n).phase = s.phase := rfl
@[simp] theorem State.setBitcnt_hcause (n : Nat) : (s.setBitcnt n).hcause = s.hcause := rfl
@[simp] theorem State.setBitcnt_stopreq (n : Nat) : (s.setBitcnt n).stopreq = s.stopreq := rfl
@[simp] theorem State.setBitcnt_stopAt (n : Nat) : (s.setBitcnt n).stopAt = s.stopAt := rfl
@[simp] theorem State.setBitcnt_frames (n : Nat) : (s.setBitcnt n).frames = s.frames := rfl
@[simp] theorem State.setBitcnt_marks (n : Nat) : (s.setBitcnt n).marks = s.marks := rfl
@[simp] theorem State.setBitcnt_progress (n : Nat) : (s.setBitcnt n).progress = s.progress := rfl
@[simp] theorem State.setBitcnt_ret (n : Nat) : (s.setBitcnt n).ret = s.ret := rfl

@[simp] theorem State.setSubstart_mem (i : Nat) : (s.setSubstart i).mem = s.mem := rfl
@[simp] theorem State.setSubstart_clk (i : Nat) : (s.setSubstart i).clk = s.clk := rfl
@[simp] theorem State.setSubstart_dio (i : Nat) : (s.setSubstart i).dio = s.dio := rfl
@[simp] theorem State.setSubstart_win (i : Nat) : (s.setSubstart i).win = s.win := rfl
@[simp] theorem State.setSubstart_wcnt (i : Nat) : (s.setSubstart i).wcnt = s.wcnt := rfl
@[simp] theorem State.setSubstart_trk (i : Nat) : (s.setSubstart i).trk = s.trk := rfl
@[simp] theorem State.setSubstart_ackw (i : Nat) : (s.setSubstart i).ackw = s.ackw := rfl
@[simp] theorem State.setSubstart_datw (i : Nat) : (s.setSubstart i).datw = s.datw := rfl
@[simp] theorem State.setSubstart_bitcnt (i : Nat) : (s.setSubstart i).bitcnt = s.bitcnt := rfl
@[simp] theorem State.setSubstart_substart (i : Nat) : (s.setSubstart i).substart = i := rfl
@[simp] theorem State.setSubstart_parpos (i : Nat) : (s.setSubstart i).parpos = s.parpos := rfl
@[simp] theorem State.setSubstart_tt (i : Nat) : (s.setSubstart i).tt = s.tt := rfl
@[simp] theorem State.setSubstart_phase (i : Nat) : (s.setSubstart i).phase = s.phase := rfl
@[simp] theorem State.setSubstart_hcause (i : Nat) : (s.setSubstart i).hcause = s.hcause := rfl
@[simp] theorem State.setSubstart_stopreq (i : Nat) : (s.setSubstart i).stopreq = s.stopreq := rfl
@[simp] theorem State.setSubstart_stopAt (i : Nat) : (s.setSubstart i).stopAt = s.stopAt := rfl
@[simp] theorem State.setSubstart_frames (i : Nat) : (s.setSubstart i).frames = s.frames := rfl
@[simp] theorem State.setSubstart_marks (i : Nat) : (s.setSubstart i).marks = s.marks := rfl
@[simp] theorem State.setSubstart_progress (i : Nat) : (s.setSubstart i).progress = s.progress := rfl
@[simp] theorem State.setSubstart_ret (i : Nat) : (s.setSubstart i).ret = s.ret := rfl

@[simp] theorem State.setParpos_mem (i : Nat) : (s.setParpos i).mem = s.mem := rfl
@[simp] theorem State.setParpos_clk (i : Nat) : (s.setParpos i).clk = s.clk := rfl
@[simp] theorem State.setParpos_dio (i : Nat) : (s.setParpos i).dio = s.dio := rfl
@[simp] theorem State.setParpos_win (i : Nat) : (s.setParpos i).win = s.win := rfl
@[simp] theorem State.setParpos_wcnt (i : Nat) : (s.setParpos i).wcnt = s.wcnt := rfl
@[simp] theorem State.setParpos_trk (i : Nat) : (s.setParpos i).trk = s.trk := rfl
@[simp] theorem State.setParpos_ackw (i : Nat) : (s.setParpos i).ackw = s.ackw := rfl
@[simp] theorem State.setParpos_datw (i : Nat) : (s.setParpos i).datw = s.datw := rfl
@[simp] theorem State.setParpos_bitcnt (i : Nat) : (s.setParpos i).bitcnt = s.bitcnt := rfl
@[simp] theorem State.setParpos_substart (i : Nat) : (s.setParpos i).substart = s.substart := rfl
@[simp] theorem State.setParpos_parpos (i : Nat) : (s.setParpos i).parpos = i := rfl
@[simp] theorem State.setParpos_tt (i : Nat) : (s.setParpos i).tt = s.tt := rfl
@[simp] theorem State.setParpos_phase (i : Nat) : (s.setParpos i).phase = s.phase := rfl
@[simp] theorem State.setParpos_hcause (i : Nat) : (s.setParpos i).hcause = s.hcause := rfl
@[simp] theorem State.setParpos_stopreq (i : Nat) : (s.setParpos i).stopreq = s.stopreq := rfl
@[simp] theorem State.setParpos_stopAt (i : Nat) : (s.setParpos i).stopAt = s.stopAt := rfl
@[simp] theorem State.setParpos_frames (i : Nat) : (s.setParpos i).frames = s.frames := rfl
@[simp] theorem State.setParpos_marks (i : Nat) : (s.setParpos i).marks = s.marks := rfl
@[simp] theorem State.setParpos_progress (i : Nat) : (s.setParpos i).progress = s.progress := rfl
@[simp] theorem State.setParpos_ret (i : Nat) : (s.setParpos i).ret = s.ret := rfl

@[simp] theorem State.setTt_mem (t : TransType) : (s.setTt t).mem = s.mem := rfl
@[simp] theorem State.setTt_clk (t : TransType) : (s.setTt t).clk = s.clk := rfl
@[simp] theorem State.setTt_dio (t : TransType) : (s.setTt t).dio = s.dio := rfl
@[simp] theorem State.setTt_win (t : TransType) : (s.setTt t).win = s.win := rfl
@[simp] theorem State.setTt_wcnt (t : TransType) : (s.setTt t).wcnt = s.wcnt := rfl
@[simp] theorem State.setTt_trk (t : TransType) : (s.setTt t).trk = s.trk := rfl
@[simp] theorem State.setTt_ackw (t : TransType) : (s.setTt t).ackw = s.ackw := rfl
@[simp] theorem State.setTt_datw (t : TransType) : (s.setTt t).datw = s.datw := rfl
@[simp] theorem State.setTt_bitcnt (t : TransType) : (s.setTt t).bitcnt = s.bitcnt := rfl
@[simp] theorem State.setTt_substart (t : TransType) : (s.setTt t).substart = s.substart := rfl
@[simp] theorem State.setTt_parpos (t : TransType) : (s.setTt t).parpos = s.parpos := rfl
@[simp] theorem State.setTt_tt (t : TransType) : (s.setTt t).tt = t := rfl
@[simp] theorem State.setTt_phase (t : TransType) : (s.setTt t).phase = s.phase := rfl
@[simp] theorem State.setTt_hcause (t : TransType) : (s.setTt t).hcause = s.hcause := rfl
@[simp] theorem State.setTt_stopreq (t : TransType) : (s.setTt t).stopreq = s.stopreq := rfl
@[simp] theorem State.setTt_stopAt (t : TransType) : (s.setTt t).stopAt = s.stopAt := rfl
@[simp] theorem State.setTt_frames (t : TransType) : (s.setTt t).frames = s.frames := rfl
@[simp] theorem State.setTt_marks (t : TransType) : (s.setTt t).marks = s.marks := rfl
@[simp] theorem State.setTt_progress (t : TransType) : (s.setTt t).progress = s.progress := rfl
@[simp] theorem State.setTt_ret (t : TransType) : (s.setTt t).ret = s.ret := rfl

@[simp] theorem State.setPhase_mem (p : Phase) : (s.setPhase p).mem = s.mem := rfl
@[simp] theorem State.setPhase_clk (p : Phase) : (s.setPhase p).clk = s.clk := rfl
@[simp] theorem State.setPhase_dio (p : Phase) : (s.setPhase p).dio = s.dio := rfl
@[simp] theorem State.setPhase_win (p : Phase) : (s.setPhase p).win = s.win := rfl
@[simp] theorem State.setPhase_wcnt (p : Phase) : (s.setPhase p).wcnt = s.wcnt := rfl
@[simp] theorem State.setPhase_trk (p : Phase) : (s.setPhase p).trk = s.trk := rfl
@[simp] theorem State.setPhase_ackw (p : Phase) : (s.setPhase p).ackw = s.ackw := rfl
@[simp] theorem State.setPhase_datw (p : Phase) : (s.setPhase p).datw = s.datw := rfl
@[simp] theorem State.setPhase_bitcnt (p : Phase) : (s.setPhase p).bitcnt = s.bitcnt := rfl
@[simp] theorem State.setPhase_substart (p : Phase) : (s.setPhase p).substart = s.substart := rfl
@[simp] theorem State.setPhase_parpos (p : Phase) : (s.setPhase p).parpos = s.parpos := rfl
@[simp] theorem State.setPhase_tt (p : Phase) : (s.setPhase p).tt = s.tt := rfl
@[simp] theorem State.setPhase_phase (p : Phase) : (s.setPhase p).phase = p := rfl
@[simp] theorem State.setPhase_hcause (p : Phase) : (s.setPhase p).hcause = s.hcause := rfl
@[simp] theorem State.setPhase_stopreq (p : Phase) : (s.setPhase p).stopreq = s.stopreq := rfl
@[simp] theorem State.setPhase_stopAt (p : Phase) : (s.setPhase p).stopAt = s.stopAt := rfl
@[simp] theorem State.setPhase_frames (p : Phase) : (s.setPhase p).frames = s.frames := rfl
@[simp] theorem State.setPhase_marks (p : Phase) : (s.setPhase p).marks = s.marks := rfl
@[simp] theorem State.setPhase_progress (p : Phase) : (s.setPhase p).progress = s.progress := rfl
@[simp] theorem State.setPhase_ret (p : Phase) : (s.setPhase p).ret = s.ret := rfl

@[simp] theorem State.setRet_mem (r : Ret) : (s.setRet r).mem = s.mem := rfl
@[simp] theorem State.setRet_clk (r : Ret) : (s.setRet r).clk = s.clk := rfl
@[simp] theorem State.setRet_dio (r : Ret) : (s.setRet r).dio = s.dio := rfl
@[simp] theorem State.setRet_win (r : Ret) : (s.setRet r).win = s.win := rfl
@[simp] theorem State.setRet_wcnt (r : Ret) : (s.setRet r).wcnt = s.wcnt := rfl
@[simp] theorem State.setRet_trk (r : Ret) : (s.setRet r).trk = s.trk := rfl
@[simp] theorem State.setRet_ackw (r : Ret) : (s.setRet r).ackw = s.ackw := rfl
@[simp] theorem State.setRet_datw (r : Ret) : (s.setRet r).datw = s.datw := rfl
@[simp] theorem State.setRet_bitcnt (r : Ret) : (s.setRet r).bitcnt = s.bitcnt := rfl
@[simp] theorem State.setRet_substart (r : Ret) : (s.setRet r).substart = s.substart := rfl
@[simp] theorem State.setRet_parpos (r : Ret) : (s.setRet r).parpos = s.parpos := rfl
@[simp] theorem State.setRet_tt (r : Ret) : (s.setRet r).tt = s.tt := rfl
@[simp] theorem State.setRet_phase (r : Ret) : (s.setRet r).phase = s.phase := rfl
@[simp] theorem State.setRet_hcause (r : Ret) : (s.setRet r).hcause = s.hcause := rfl
@[simp] theorem State.setRet_stopreq (r : Ret) : (s.setRet r).stopreq = s.stopreq := rfl
@[simp] theorem State.setRet_stopAt (r : Ret) : (s.setRet r).stopAt = s.stopAt := rfl
@[simp] theorem State.setRet_frames (r : Ret) : (s.setRet r).frames = s.frames := rfl
@[simp] theorem State.setRet_marks (r : Ret) : (s.setRet r).marks = s.marks := rfl
@[simp] theorem State.setRet_progress (r : Ret) : (s.setRet r).progress = s.progress := rfl
@[simp] theorem State.setRet_ret (r : Ret) : (s.setRet r).ret = r := rfl

@[simp] theorem State.addFrame_mem (r : FrameRec) : (s.addFrame r).mem = s.mem := rfl
@[simp] theorem State.addFrame_clk (r : FrameRec) : (s.addFrame r).clk = s.clk := rfl
@[simp] theorem State.addFrame_dio (r : FrameRec) : (s.addFrame r).dio = s.dio := rfl
@[simp] theorem State.addFrame_win (r : FrameRec) : (s.addFrame r).win = s.win := rfl
@[simp] theorem State.addFrame_wcnt (r : FrameRec) : (s.addFrame r).wcnt = s.wcnt := rfl
@[simp] theorem State.addFrame_trk (r : FrameRec) : (s.addFrame r).trk = s.trk := rfl
@[simp] theorem State.addFrame_ackw (r : FrameRec) : (s.addFrame r).ackw = s.ackw := rfl
@[simp] theorem State.addFrame_datw (r : FrameRec) : (s.addFrame r).datw = s.datw := rfl
@[simp] theorem State.addFrame_bitcnt (r : FrameRec) : (s.addFrame r).bitcnt = s.bitcnt := rfl
@[simp] theorem State.addFrame_substart (r : FrameRec) : (s.addFrame r).substart = s.substart := rfl
@[simp] theorem State.addFrame_parpos (r : FrameRec) : (s.addFrame r).parpos = s.parpos := rfl
@[simp] theorem State.addFrame_tt (r : FrameRec) : (s.addFrame r).tt = s.tt := rfl
@[simp] theorem State.addFrame_phase (r : FrameRec) : (s.addFrame r).phase = s.phase := rfl
@[simp] theorem State.addFrame_hcause (r : FrameRec) : (s.addFrame r).hcause = s.hcause := rfl
@[simp] theorem State.addFrame_stopreq (r : FrameRec) : (s.addFrame r).stopreq = s.stopreq := rfl
@[simp] theorem State.addFrame_stopAt (r : FrameRec) : (s.addFrame r).stopAt = s.stopAt := rfl
@[simp] theorem State.addFrame_frames (r : FrameRec) : (s.addFrame r).frames = s.frames ++ [r] := rfl
@[simp] theorem State.addFrame_marks (r : FrameRec) : (s.addFrame r).marks = s.marks := rfl
@[simp] theorem State.addFrame_progress (r : FrameRec) : (s.addFrame r).progress = s.progress := rfl
@[simp] theorem State.addFrame_ret (r : FrameRec) : (s.addFrame r).ret = s.ret := rfl

@[simp] theorem State.addMark_mem (m : MarkRec) : (s.addMark m).mem = s.mem := rfl
@[simp] theorem State.addMark_clk (m : MarkRec) : (s.addMark m).clk = s.clk := rfl
@[simp] theorem State.addMark_dio (m : MarkRec) : (s.addMark m).dio = s.dio := rfl
@[simp] theorem State.addMark_win (m : MarkRec) : (s.addMark m).win = s.win := rfl
@[simp] theorem State.addMark_wcnt (m : MarkRec) : (s.addMark m).wcnt = s.wcnt := rfl
@[simp] theorem State.addMark_trk (m : MarkRec) : (s.addMark m).trk = s.trk := rfl
@[simp] theorem State.addMark_ackw (m : MarkRec) : (s.addMark m).ackw = s.ackw := rfl
@[simp] theorem State.addMark_datw (m : MarkRec) : (s.addMark m).datw = s.datw := rfl
@[simp] theorem State.addMark_bitcnt (m : MarkRec) : (s.addMark m).bitcnt = s.bitcnt := rfl
@[simp] theorem State.addMark_substart (m : MarkRec) : (s.addMark m).substart = s.substart := rfl
@[simp] theorem State.addMark_parpos (m : MarkRec) : (s.addMark m).parpos = s.parpos := rfl
@[simp] theorem State.addMark_tt (m : MarkRec) : (s.addMark m).tt = s.tt := rfl
@[simp] theorem State.addMark_phase (m : MarkRec) : (s.addMark m).phase = s.phase := rfl
@[simp] theorem State.addMark_hcause (m : MarkRec) : (s.addMark m).hcause = s.hcause := rfl
@[simp] theorem State.addMark_stopreq (m : MarkRec) : (s.addMark m).stopreq = s.stopreq := rfl
@[simp] theorem State.addMark_stopAt (m : MarkRec) : (s.addMark m).stopAt = s.stopAt := rfl
@[simp] theorem State.addMark_frames (m : MarkRec) : (s.addMark m).frames = s.frames := rfl
@[simp] theorem State.addMark_marks (m : MarkRec) : (s.addMark m).marks = s.marks ++ [m] := rfl
@[simp] theorem State.addMark_progress (m : MarkRec) : (s.addMark m).progress = s.progress := rfl
@[simp] theorem State.addMark_ret (m : MarkRec) : (s.addMark m).ret = s.ret := rfl

@[simp] theorem State.setProgress_mem (i : Nat) : (s.setProgress i).mem = s.mem := rfl
@[simp] theorem State.setProgress_clk (i : Nat) : (s.setProgress i).clk = s.clk := rfl
@[simp] theorem State.setProgress_dio (i : Nat) : (s.setProgress i).dio = s.dio := rfl
@[simp] theorem State.setProgress_win (i : Nat) : (s.setProgress i).win = s.win := rfl
@[simp] theorem State.setProgress_wcnt (i : Nat) : (s.setProgress i).wcnt = s.wcnt := rfl
@[simp] theorem State.setProgress_trk (i : Nat) : (s.setProgress i).trk = s.trk := rfl
@[simp] theorem State.setProgress_ackw (i : Nat) : (s.setProgress i).ackw = s.ackw := rfl
@[simp] theorem State.setProgress_datw (i : Nat) : (s.setProgress i).datw = s.datw := rfl
@[simp] theorem State.setProgress_bitcnt (i : Nat) : (s.setProgress i).bitcnt = s.bitcnt := rfl
@[simp] theorem State.setProgress_substart (i : Nat) : (s.setProgress i).substart = s.substart := rfl
@[simp] theorem State.setProgress_parpos (i : Nat) : (s.setProgress i).parpos = s.parpos := rfl
@[simp] theorem State.setProgress_tt (i : Nat) : (s.setProgress i).tt = s.tt := rfl
@[simp] theorem State.setProgress_phase (i : Nat) : (s.setProgress i).phase = s.phase := rfl
@[simp] theorem State.setProgress_hcause (i : Nat) : (s.setProgress i).hcause = s.hcause := rfl
@[simp] theorem State.setProgress_stopreq (i : Nat) : (s.setProgress i).stopreq = s.stopreq := rfl
@[simp] theorem State.setProgress_stopAt (i : Nat) : (s.setProgress i).stopAt = s.stopAt := rfl
@[simp] theorem State.setProgress_frames (i : Nat) : (s.setProgress i).frames = s.frames := rfl
@[simp] theorem State.setProgress_marks (i : Nat) : (s.setProgress i).marks = s.marks := rfl
@[simp] theorem State.setProgress_progress (i : Nat) : (s.setProgress i).progress = some i := rfl
@[simp] theorem State.setProgress_ret (i : Nat) : (s.setProgress i).ret = s.ret := rfl

@[simp] theorem State.halt_mem (c : HCause) : (s.halt c).mem = s.mem := rfl
@[simp] theorem State.halt_clk (c : HCause) : (s.halt c).clk = s.clk := rfl
@[simp] theorem State.halt_dio (c : HCause) : (s.halt c).dio = s.dio := rfl
@[simp] theorem State.halt_win (c : HCause) : (s.halt c).win = s.win := rfl
@[simp] theorem State.halt_wcnt (c : HCause) : (s.halt c).wcnt = s.wcnt := rfl
@[simp] theorem State.halt_trk (c : HCause) : (s.halt c).trk = s.trk := rfl
@[simp] theorem State.halt_ackw (c : HCause) : (s.halt c).ackw = s.ackw := rfl
@[simp] theorem State.halt_datw (c : HCause) : (s.halt c).datw = s.datw := rfl
@[simp] theorem State.halt_bitcnt (c : HCause) : (s.halt c).bitcnt = s.bitcnt := rfl
@[simp] theorem State.halt_substart (c : HCause) : (s.halt c).substart = s.substart := rfl
@[simp] theorem State.halt_parpos (c : HCause) : (s.halt c).parpos = s.parpos := rfl
@[simp] theorem State.halt_tt (c : HCause) : (s.halt c).tt = s.tt := rfl
@[simp] theorem State.halt_phase (c : HCause) : (s.halt c).phase = .halted := rfl
@[simp] theorem State.halt_hcause (c : HCause) : (s.halt c).hcause = c := rfl
@[simp] theorem State.halt_stopreq (c : HCause) : (s.halt c).stopreq = s.stopreq := rfl
@[simp] theorem State.halt_stopAt (c : HCause) : (s.halt c).stopAt = s.stopAt := rfl
@[simp] theorem State.halt_frames (c : HCause) : (s.halt c).frames = s.frames := rfl
@[simp] theorem State.halt_marks (c : HCause) : (s.halt c).marks = s.marks := rfl
@[simp] theorem State.halt_progress (c : HCause) : (s.halt c).progress = s.progress := rfl
@[simp] theorem State.halt_ret (c : HCause) : (s.halt c).ret = s.ret := rfl

@[simp] theorem State.requestStop_mem : s.requestStop.mem = s.mem := rfl
@[simp] theorem State.requestStop_clk : s.requestStop.clk = s.clk := rfl
@[simp] theorem State.requestStop_dio : s.requestStop.dio = s.dio := rfl
@[simp] theorem State.requestStop_win : s.requestStop.win = s.win := rfl
@[simp] theorem State.requestStop_wcnt : s.requestStop.wcnt = s.wcnt := rfl
@[simp] theorem State.requestStop_trk : s.requestStop.trk = s.trk := rfl
@[simp] theorem State.requestStop_ackw : s.requestStop.ackw = s.ackw := rfl
@[simp] theorem State.requestStop_datw : s.requestStop.datw = s.datw := rfl
@[simp] theorem State.requestStop_bitcnt : s.requestStop.bitcnt = s.bitcnt := rfl
@[simp] theorem State.requestStop_substart : s.requestStop.substart = s.substart := rfl
@[simp] theorem State.requestStop_parpos : s.requestStop.parpos = s.parpos := rfl
@[simp] theorem State.requestStop_tt : s.requestStop.tt = s.tt := rfl
@[simp] theorem State.requestStop_phase : s.requestStop.phase = s.phase := rfl
@[simp] theorem State.requestStop_hcause : s.requestStop.hcause = s.hcause := rfl
@[simp] theorem State.requestStop_stopreq : s.requestStop.stopreq = true := rfl
@[simp] theorem State.requestStop_stopAt : s.requestStop.stopAt = s.stopAt := rfl
@[simp] theorem State.requestStop_frames : s.requestStop.frames = s.frames := rfl
@[simp] theorem State.requestStop_marks : s.requestStop.marks = s.marks := rfl
@[simp] theorem State.requestStop_progress : s.requestStop.progress = s.progress := rfl
@[simp] theorem State.requestStop_ret : s.requestStop.ret = s.ret := rfl

@[simp] theorem State.scheduleStop_mem (w : Option Nat) : (s.scheduleStop w).mem = s.mem := rfl
@[simp] theorem State.scheduleStop_clk (w : Option Nat) : (s.scheduleStop w).clk = s.clk := rfl
@[simp] theorem State.scheduleStop_dio (w : Option Nat) : (s.scheduleStop w).dio = s.dio := rfl
@[simp] theorem State.scheduleStop_win (w : Option Nat) : (s.scheduleStop w).win = s.win := rfl
@[simp] theorem State.scheduleStop_wcnt (w : Option Nat) : (s.scheduleStop w).wcnt = s.wcnt := rfl
@[simp] theorem State.scheduleStop_trk (w : Option Nat) : (s.scheduleStop w).trk = s.trk := rfl
@[simp] theorem State.scheduleStop_ackw (w : Option Nat) : (s.scheduleStop w).ackw = s.ackw := rfl
@[simp] theorem State.scheduleStop_datw (w : Option Nat) : (s.scheduleStop w).datw = s.datw := rfl
@[simp] theorem State.scheduleStop_bitcnt (w : Option Nat) : (s.scheduleStop w).bitcnt = s.bitcnt := rfl
@[simp] theorem State.scheduleStop_substart (w : Option Nat) : (s.scheduleStop w).substart = s.substart := rfl
@[simp] theorem State.scheduleStop_parpos (w : Option Nat) : (s.scheduleStop w).parpos = s.parpos := rfl
@[simp] theorem State.scheduleStop_tt (w : Option Nat) : (s.scheduleStop w).tt = s.tt := rfl
@[simp] theorem State.scheduleStop_phase (w : Option Nat) : (s.scheduleStop w).phase = s.phase := rfl
@[simp] theorem State.scheduleStop_hcause (w : Option Nat) : (s.scheduleStop w).hcause = s.hcause := rfl
@[simp] theorem State.scheduleStop_stopreq (w : Option Nat) : (s.scheduleStop w).stopreq = s.stopreq := rfl
@[simp] theorem State.scheduleStop_stopAt (w : Option Nat) : (s.scheduleStop w).stopAt = w := rfl
@[simp] theorem State.scheduleStop_frames (w : Option Nat) : (s.scheduleStop w).frames = s.frames := rfl
@[simp] theorem State.scheduleStop_marks (w : Option Nat) : (s.scheduleStop w).marks = s.marks := rfl
@[simp] theorem State.scheduleStop_progress (w : Option Nat) : (s.scheduleStop w).progress = s.progress := rfl
@[simp] theorem State.scheduleStop_ret (w : Option Nat) : (s.scheduleStop w).ret = s.ret := rfl

/-! The host's turn changes STOPREQ alone. -/

@[simp] theorem State.hostMoved_mem : s.hostMoved.mem = s.mem := by unfold State.hostMoved; split <;> rfl
@[simp] theorem State.hostMoved_clk : s.hostMoved.clk = s.clk := by unfold State.hostMoved; split <;> rfl
@[simp] theorem State.hostMoved_dio : s.hostMoved.dio = s.dio := by unfold State.hostMoved; split <;> rfl
@[simp] theorem State.hostMoved_win : s.hostMoved.win = s.win := by unfold State.hostMoved; split <;> rfl
@[simp] theorem State.hostMoved_wcnt : s.hostMoved.wcnt = s.wcnt := by unfold State.hostMoved; split <;> rfl
@[simp] theorem State.hostMoved_trk : s.hostMoved.trk = s.trk := by unfold State.hostMoved; split <;> rfl
@[simp] theorem State.hostMoved_ackw : s.hostMoved.ackw = s.ackw := by unfold State.hostMoved; split <;> rfl
@[simp] theorem State.hostMoved_datw : s.hostMoved.datw = s.datw := by unfold State.hostMoved; split <;> rfl
@[simp] theorem State.hostMoved_bitcnt : s.hostMoved.bitcnt = s.bitcnt := by unfold State.hostMoved; split <;> rfl
@[simp] theorem State.hostMoved_substart : s.hostMoved.substart = s.substart := by unfold State.hostMoved; split <;> rfl
@[simp] theorem State.hostMoved_parpos : s.hostMoved.parpos = s.parpos := by unfold State.hostMoved; split <;> rfl
@[simp] theorem State.hostMoved_tt : s.hostMoved.tt = s.tt := by unfold State.hostMoved; split <;> rfl
@[simp] theorem State.hostMoved_phase : s.hostMoved.phase = s.phase := by unfold State.hostMoved; split <;> rfl
@[simp] theorem State.hostMoved_hcause : s.hostMoved.hcause = s.hcause := by unfold State.hostMoved; split <;> rfl
@[simp] theorem State.hostMoved_stopAt : s.hostMoved.stopAt = s.stopAt := by unfold State.hostMoved; split <;> rfl
@[simp] theorem State.hostMoved_frames : s.hostMoved.frames = s.frames := by unfold State.hostMoved; split <;> rfl
@[simp] theorem State.hostMoved_marks : s.hostMoved.marks = s.marks := by unfold State.hostMoved; split <;> rfl
@[simp] theorem State.hostMoved_progress : s.hostMoved.progress = s.progress := by unfold State.hostMoved; split <;> rfl
@[simp] theorem State.hostMoved_ret : s.hostMoved.ret = s.ret := by unfold State.hostMoved; split <;> rfl
@[simp] theorem State.hostMoved_stopreq : s.hostMoved.stopreq = (s.stopreq || s.stopDue) := by
  unfold State.hostMoved
  split <;> simp_all [State.requestStop]

theorem State.hostMoved_eq : s.hostMoved = { s with stopreq := s.stopreq || s.stopDue } := by
  unfold State.hostMoved
  split <;> simp_all [State.requestStop]

theorem State.stopDue_iff : s.stopDue = true ↔ ∃ i, s.stopAt = some i ∧ i ≤ s.clk.pos := by
  unfold State.stopDue
  split <;> simp_all

/-- A host that never moves. -/
theorem State.hostMoved_of_never (h : s.stopAt = none) : s.hostMoved = s := by
  simp [State.hostMoved, State.stopDue, h]

/-- Once the move is made, the host's turn changes nothing. -/
theorem State.hostMoved_of_stopreq (h : s.stopreq = true) : s.hostMoved = s := by
  cases s
  simp_all [State.hostMoved_eq]

end Sys2Proof.Machine
end

