-- ==== Sys2Proof/Laws/Ops.lean ====
section
/-! SUPPORT. One lemma per shared operation: what it can do when it completes, when it raises TraceExhausted, and when it is
refused. -/

namespace Sys2Proof.Machine

/-! Sequencing. -/

@[simp] theorem Ran.done_andThen (s : State) (k : State → Ran) : (Ran.done s).andThen k = k s := rfl

@[simp] theorem Ran.raised_andThen (s : State) (k : State → Ran) : (Ran.raised s).andThen k = .raised s := rfl

@[simp] theorem Ran.refused_andThen (r : Refusal) (k : State → Ran) : (Ran.refused r).andThen k = .refused r := rfl

theorem Ran.andThen_assoc (r : Ran) (k j : State → Ran) :
    (r.andThen k).andThen j = r.andThen fun s => (k s).andThen j := by
  cases r <;> rfl

theorem Ran.andThen_eq_done {r : Ran} {k : State → Ran} {t : State} :
    r.andThen k = .done t ↔ ∃ u, r = .done u ∧ k u = .done t := by
  cases r <;> simp [Ran.andThen]

theorem Ran.andThen_eq_raised {r : Ran} {k : State → Ran} {t : State} :
    r.andThen k = .raised t ↔ r = .raised t ∨ ∃ u, r = .done u ∧ k u = .raised t := by
  cases r <;> simp [Ran.andThen]

theorem Ran.andThen_eq_refused {r : Ran} {k : State → Ran} {x : Refusal} :
    r.andThen k = .refused x ↔ r = .refused x ∨ ∃ u, r = .done u ∧ k u = .refused x := by
  cases r <;> simp [Ran.andThen]

/-- A next state of an operation comes from its end or from TraceExhausted. -/
theorem Ran.outcome_eq_next {r : Ran} {t : State} :
    r.outcome = .next t ↔ r = .done t ∨ ∃ u, r = .raised u ∧ t = u.halt .traceExhausted := by
  cases r <;> simp [Ran.outcome, eq_comm]

/-- Executing an operation gives a next state only while running. -/
theorem runOp_eq_next {op : State → Ran} {s t : State} :
    runOp op s = .next t ↔ s.Running ∧ (op s = .done t ∨ ∃ u, op s = .raised u ∧ t = u.halt .traceExhausted) := by
  unfold runOp
  split
  · simp [*]
  · simp [*, Ran.outcome_eq_next]

theorem runOp_running {op : State → Ran} {s : State} (h : s.Running) : runOp op s = (op s).outcome :=
  if_neg h

theorem runOp_halted {op : State → Ran} {s : State} (h : s.phase = .halted) : runOp op s = .fault .halted :=
  if_pos h

/-! Reading the clock trace. -/

theorem leastAbove_gt {p e : Nat} {l : List Nat} (h : leastAbove p l = some e) : p < e := by
  induction l generalizing e with
  | nil => simp [leastAbove] at h
  | cons a l ih =>
    unfold leastAbove at h
    split at h
    · split at h
      · simp at h; omega
      · next m hm => have := ih hm; simp at h; omega
    · exact ih h

theorem leastAbove_mem {p e : Nat} {l : List Nat} (h : leastAbove p l = some e) : e ∈ l := by
  induction l generalizing e with
  | nil => simp [leastAbove] at h
  | cons a l ih =>
    unfold leastAbove at h
    split at h
    · split at h
      · simp at h; simp [h]
      · next m hm =>
        have := ih hm
        simp at h
        rcases min_choice a m with hc | hc <;> rw [hc] at h <;> subst h <;> simp [this]
    · exact List.mem_cons_of_mem _ (ih h)

/-- Moving past a transition leaves fewer transitions ahead. -/
theorem countAbove_lt {p e : Nat} {l : List Nat} (hp : p < e) (hm : e ∈ l) :
    countAbove e l < countAbove p l := by
  have mono : ∀ l, countAbove e l ≤ countAbove p l := by
    intro l
    induction l with
    | nil => simp [countAbove]
    | cons a l ih =>
      simp only [countAbove]
      split <;> split <;> omega
  induction l with
  | nil => simp at hm
  | cons a l ih =>
    simp only [countAbove]
    rcases List.mem_cons.mp hm with rfl | h
    · have := mono l
      simp [hp]
      omega
    · have := ih h
      split <;> split <;> omega

/-! Cursor operations. -/

theorem nextEdgeOp_eq_done {s t : State} :
    nextEdgeOp s = .done t ↔ ∃ e, s.mem.clkt.nextEdge s.clk.pos = some e ∧ t = s.setClk ⟨e, s.clk.lvl ^^^ 1#1⟩ := by
  unfold nextEdgeOp
  cases s.mem.clkt.nextEdge s.clk.pos <;> simp [eq_comm]

theorem nextEdgeOp_eq_raised {s t : State} :
    nextEdgeOp s = .raised t ↔ s.mem.clkt.nextEdge s.clk.pos = none ∧ t = s := by
  unfold nextEdgeOp
  cases s.mem.clkt.nextEdge s.clk.pos <;> simp [eq_comm]

@[simp] theorem nextEdgeOp_ne_refused {s : State} {r : Refusal} : nextEdgeOp s ≠ .refused r := by
  unfold nextEdgeOp
  split <;> simp

theorem nextEdgeIfLevel_eq_done {l : Bit} {s t : State} :
    nextEdgeIfLevel l s = .done t ↔ (s.clk.lvl = l ∧ nextEdgeOp s = .done t) ∨ (s.clk.lvl ≠ l ∧ t = s) := by
  unfold nextEdgeIfLevel
  split <;> simp_all [eq_comm]

theorem nextEdgeIfLevel_eq_raised {l : Bit} {s t : State} :
    nextEdgeIfLevel l s = .raised t ↔ s.clk.lvl = l ∧ nextEdgeOp s = .raised t := by
  unfold nextEdgeIfLevel
  split <;> simp_all

@[simp] theorem nextEdgeIfLevel_ne_refused {l : Bit} {s : State} {r : Refusal} :
    nextEdgeIfLevel l s ≠ .refused r := by
  unfold nextEdgeIfLevel
  split <;> simp

theorem gotoAbsOp_eq_done {i : Nat} {s t : State} :
    gotoAbsOp i s = .done t ↔ s.dio.pos ≤ i ∧ t = s.setDio ⟨i, s.mem.diot.level i⟩ := by
  unfold gotoAbsOp
  split
  · simp; omega
  · simp [eq_comm]; omega

@[simp] theorem gotoAbsOp_ne_raised {i : Nat} {s t : State} : gotoAbsOp i s ≠ .raised t := by
  unfold gotoAbsOp
  split <;> simp

theorem gotoAbsOp_eq_refused {i : Nat} {s : State} {r : Refusal} :
    gotoAbsOp i s = .refused r ↔ i < s.dio.pos ∧ r = .backwardMove := by
  unfold gotoAbsOp
  split <;> simp [*, eq_comm]

theorem samplePoint_eq_done {k : MarkKind} {s t : State} :
    samplePoint k s = .done t ↔
      s.dio.pos ≤ s.clk.pos ∧ t = (s.addMark ⟨s.clk.pos, k, .clk⟩).setDio ⟨s.clk.pos, s.mem.diot.level s.clk.pos⟩ := by
  simp [samplePoint, resync, gotoAbsOp_eq_done]

@[simp] theorem samplePoint_ne_raised {k : MarkKind} {s t : State} : samplePoint k s ≠ .raised t := by
  simp [samplePoint, resync]

/-- The cursors a clock cursor passes on its way, each one NEXT_EDGE after the one before (40_cursor_ops.md R131). -/
inductive ClockPath (t : Trace) (c : Cursor) : Cursor → Prop where
  | here : ClockPath t c c
  | next {d : Cursor} {e : Nat} (h : ClockPath t c d) (he : t.nextEdge d.pos = some e) :
      ClockPath t c ⟨e, d.lvl ^^^ 1#1⟩

theorem ClockPath.le {t : Trace} {c d : Cursor} (h : ClockPath t c d) : c.pos ≤ d.pos := by
  induction h with
  | here => exact le_refl _
  | next _ he ih => exact le_trans ih (le_of_lt (leastAbove_gt he))

/-- Where a composite can complete: strictly further on along the clock path, at a transition, not behind the data cursor. -/
structure Reaches (s : State) (c : Cursor) : Prop where
  path : ClockPath s.mem.clkt s.clk c
  later : s.clk.pos < c.pos
  edge : c.pos ∈ s.mem.clkt.edges
  data : s.dio.pos ≤ c.pos

/-- Where TraceExhausted can leave the clock cursor: on the clock path, with no transition after it (40_cursor_ops.md R139). -/
structure Exhausts (s : State) (c : Cursor) : Prop where
  path : ClockPath s.mem.clkt s.clk c
  ended : s.mem.clkt.nextEdge c.pos = none

/-- A path that takes one more transition arrives later, at a transition. -/
theorem Reaches.of_next {s : State} {d : Cursor} {e : Nat} (h : ClockPath s.mem.clkt s.clk d)
    (he : s.mem.clkt.nextEdge d.pos = some e) (hd : s.dio.pos ≤ e) : Reaches s ⟨e, d.lvl ^^^ 1#1⟩ :=
  ⟨.next h he, lt_of_le_of_lt h.le (leastAbove_gt he), leastAbove_mem he, hd⟩

/-- What a completed composite leaves: both cursors at `c`, some markers appended, nothing else changed
(40_cursor_ops.md R140). -/
def State.advancedTo (s : State) (c : Cursor) (ms : List MarkRec) : State :=
  { s with clk := c, dio := ⟨c.pos, s.mem.diot.level c.pos⟩, marks := s.marks ++ ms }

section
variable (s : State) (c : Cursor) (ms : List MarkRec)

@[simp] theorem State.advancedTo_mem : (s.advancedTo c ms).mem = s.mem := rfl
@[simp] theorem State.advancedTo_clk : (s.advancedTo c ms).clk = c := rfl
@[simp] theorem State.advancedTo_dio : (s.advancedTo c ms).dio = ⟨c.pos, s.mem.diot.level c.pos⟩ := rfl
@[simp] theorem State.advancedTo_win : (s.advancedTo c ms).win = s.win := rfl
@[simp] theorem State.advancedTo_wcnt : (s.advancedTo c ms).wcnt = s.wcnt := rfl
@[simp] theorem State.advancedTo_trk : (s.advancedTo c ms).trk = s.trk := rfl
@[simp] theorem State.advancedTo_ackw : (s.advancedTo c ms).ackw = s.ackw := rfl
@[simp] theorem State.advancedTo_datw : (s.advancedTo c ms).datw = s.datw := rfl
@[simp] theorem State.advancedTo_bitcnt : (s.advancedTo c ms).bitcnt = s.bitcnt := rfl
@[simp] theorem State.advancedTo_substart : (s.advancedTo c ms).substart = s.substart := rfl
@[simp] theorem State.advancedTo_parpos : (s.advancedTo c ms).parpos = s.parpos := rfl
@[simp] theorem State.advancedTo_tt : (s.advancedTo c ms).tt = s.tt := rfl
@[simp] theorem State.advancedTo_phase : (s.advancedTo c ms).phase = s.phase := rfl
@[simp] theorem State.advancedTo_hcause : (s.advancedTo c ms).hcause = s.hcause := rfl
@[simp] theorem State.advancedTo_stopreq : (s.advancedTo c ms).stopreq = s.stopreq := rfl
@[simp] theorem State.advancedTo_stopAt : (s.advancedTo c ms).stopAt = s.stopAt := rfl
@[simp] theorem State.advancedTo_frames : (s.advancedTo c ms).frames = s.frames := rfl
@[simp] theorem State.advancedTo_marks : (s.advancedTo c ms).marks = s.marks ++ ms := rfl
@[simp] theorem State.advancedTo_progress : (s.advancedTo c ms).progress = s.progress := rfl
@[simp] theorem State.advancedTo_ret : (s.advancedTo c ms).ret = s.ret := rfl

end

theorem bit_flip {x : Bit} : (x ≠ 1#1 → x ^^^ 1#1 = 1#1) ∧ x ^^^ 1#1 ^^^ 1#1 = x := by
  revert x
  decide

theorem advMasterOp_done {s t : State} (h : advMasterOp s = .done t) :
    ∃ e, Reaches s ⟨e, 1#1⟩ ∧ t = s.advancedTo ⟨e, 1#1⟩ [⟨e, .masterSample, .clk⟩] := by
  simp only [advMasterOp, Ran.andThen_eq_done, nextEdgeIfLevel_eq_done, nextEdgeOp_eq_done, samplePoint_eq_done] at h
  obtain ⟨a, ha, b, ⟨e, he, rfl⟩, hd, rfl⟩ := h
  rcases ha with ⟨hl, f, hf, rfl⟩ | ⟨hl, rfl⟩
  · have hr := Reaches.of_next (.next .here hf) he hd
    simp only [hl, BitVec.xor_assoc] at hr
    exact ⟨e, hr, by simp [State.advancedTo, State.setClk, State.addMark, State.setDio, hl]⟩
  · have hr := Reaches.of_next .here he hd
    rw [bit_flip.1 hl] at hr
    exact ⟨e, hr, by simp [State.advancedTo, State.setClk, State.addMark, State.setDio, bit_flip.1 hl]⟩

theorem advMasterOp_raised {s t : State} (h : advMasterOp s = .raised t) : ∃ c, Exhausts s c ∧ t = s.setClk c := by
  simp only [advMasterOp, Ran.andThen_eq_raised, nextEdgeIfLevel_eq_done, nextEdgeIfLevel_eq_raised, nextEdgeOp_eq_done,
    nextEdgeOp_eq_raised, samplePoint_ne_raised, and_false, exists_false, or_false] at h
  rcases h with ⟨_, hn, rfl⟩ | ⟨a, ⟨_, f, hf, rfl⟩ | ⟨_, rfl⟩, hn, rfl⟩
  · exact ⟨_, ⟨.here, hn⟩, rfl⟩
  · exact ⟨_, ⟨.next .here hf, hn⟩, rfl⟩
  · exact ⟨_, ⟨.here, hn⟩, rfl⟩

theorem advSlaveOp_done {s t : State} (h : advSlaveOp s = .done t) :
    ∃ e, Reaches s ⟨e, 0#1⟩ ∧ t = s.advancedTo ⟨e, 0#1⟩ [⟨e, .slaveSample, .clk⟩] := by
  simp only [advSlaveOp, advSlaveWith, Config.slaveMirrored, Bool.false_eq_true, if_false, Ran.andThen_eq_done,
    nextEdgeIfLevel_eq_done, nextEdgeOp_eq_done, samplePoint_eq_done] at h
  obtain ⟨a, ha, b, ⟨e, he, rfl⟩, c, ⟨g, hg, rfl⟩, hd, rfl⟩ := h
  rcases ha with ⟨hl, f, hf, rfl⟩ | ⟨hl, rfl⟩
  · have hr := Reaches.of_next (.next (.next .here hf) he) hg hd
    simp only [hl] at hr
    exact ⟨g, hr, by simp [State.advancedTo, State.setClk, State.addMark, State.setDio, hl]⟩
  · have hr := Reaches.of_next (.next .here he) hg hd
    simp only [bit_flip.1 hl] at hr
    exact ⟨g, hr, by simp [State.advancedTo, State.setClk, State.addMark, State.setDio, bit_flip.1 hl]⟩

theorem advSlaveOp_raised {s t : State} (h : advSlaveOp s = .raised t) : ∃ c, Exhausts s c ∧ t = s.setClk c := by
  simp only [advSlaveOp, advSlaveWith, Config.slaveMirrored, Bool.false_eq_true, if_false, Ran.andThen_eq_raised,
    nextEdgeIfLevel_eq_done, nextEdgeIfLevel_eq_raised, nextEdgeOp_eq_done, nextEdgeOp_eq_raised, samplePoint_ne_raised,
    and_false, exists_false, or_false] at h
  rcases h with ⟨_, hn, rfl⟩ | ⟨a, ha, ⟨hn, rfl⟩ | ⟨b, ⟨e, he, rfl⟩, hn, rfl⟩⟩
  · exact ⟨_, ⟨.here, hn⟩, rfl⟩
  · rcases ha with ⟨_, f, hf, rfl⟩ | ⟨_, rfl⟩
    · exact ⟨_, ⟨.next .here hf, hn⟩, rfl⟩
    · exact ⟨_, ⟨.here, hn⟩, rfl⟩
  · rcases ha with ⟨_, f, hf, rfl⟩ | ⟨_, rfl⟩
    · exact ⟨_, ⟨.next (.next .here hf) he, hn⟩, rfl⟩
    · exact ⟨_, ⟨.next .here he, hn⟩, rfl⟩

theorem advEdgeOp_done {s t : State} (h : advEdgeOp s = .done t) :
    ∃ e, Reaches s ⟨e, s.clk.lvl ^^^ 1#1⟩ ∧ t = s.advancedTo ⟨e, s.clk.lvl ^^^ 1#1⟩ [] := by
  simp only [advEdgeOp, Ran.andThen_eq_done, nextEdgeOp_eq_done, resync, gotoAbsOp_eq_done] at h
  obtain ⟨b, ⟨e, he, rfl⟩, hd, rfl⟩ := h
  exact ⟨e, .of_next .here he hd, by simp [State.advancedTo, State.setClk, State.setDio]⟩

theorem advEdgeOp_raised {s t : State} (h : advEdgeOp s = .raised t) : ∃ c, Exhausts s c ∧ t = s.setClk c := by
  simp only [advEdgeOp, Ran.andThen_eq_raised, nextEdgeOp_eq_done, nextEdgeOp_eq_raised, resync, gotoAbsOp_ne_raised,
    and_false, exists_false, or_false] at h
  obtain ⟨hn, rfl⟩ := h
  exact ⟨_, ⟨.here, hn⟩, rfl⟩

theorem advTurnOp_done {s t : State} (h : advTurnOp s = .done t) :
    ∃ e, Reaches s ⟨e, s.clk.lvl⟩ ∧ t = s.advancedTo ⟨e, s.clk.lvl⟩ [] := by
  simp only [advTurnOp, Ran.andThen_eq_done, nextEdgeOp_eq_done, resync, gotoAbsOp_eq_done] at h
  obtain ⟨a, ⟨f, hf, rfl⟩, b, ⟨e, he, rfl⟩, hd, rfl⟩ := h
  have hr := Reaches.of_next (.next .here hf) he hd
  simp only [bit_flip.2] at hr
  exact ⟨e, hr, by simp [State.advancedTo, State.setClk, State.setDio, bit_flip.2]⟩

theorem advTurnOp_raised {s t : State} (h : advTurnOp s = .raised t) : ∃ c, Exhausts s c ∧ t = s.setClk c := by
  simp only [advTurnOp, Ran.andThen_eq_raised, nextEdgeOp_eq_done, nextEdgeOp_eq_raised, resync, gotoAbsOp_ne_raised,
    and_false, exists_false, or_false] at h
  rcases h with ⟨hn, rfl⟩ | ⟨a, ⟨f, hf, rfl⟩, hn, rfl⟩
  · exact ⟨_, ⟨.here, hn⟩, rfl⟩
  · exact ⟨_, ⟨.next .here hf, hn⟩, rfl⟩

/-- A composite that completes has fewer transitions ahead than before. -/
theorem Reaches.remaining_lt {s : State} {c : Cursor} {ms : List MarkRec} (h : Reaches s c) :
    (s.advancedTo c ms).remaining < s.remaining :=
  countAbove_lt h.later h.edge

/-! No operation writes a trace, so every one keeps their canonical form (20_memory.md R62). -/

theorem advancedTo_keeps_wf {s : State} {c : Cursor} {ms : List MarkRec} (hw : s.mem.wf) : (s.advancedTo c ms).mem.wf :=
  hw

theorem reset_mem_wf : State.reset.mem.wf := by decide

/-! Registers and sinks. -/

@[simp] theorem emit_frames (t : FrameType) (p : BitVec 64) (a b : Nat) (s : State) :
    (emit t p a b s).frames = s.frames ++ [⟨t, p, a, b, 0#8⟩] := rfl

@[simp] theorem emit_progress (t : FrameType) (p : BitVec 64) (a b : Nat) (s : State) :
    (emit t p a b s).progress = some b := rfl

/-- EMIT_FRAME writes the frame sink and the progress sink, nothing else. -/
theorem emit_eq (t : FrameType) (p : BitVec 64) (a b : Nat) (s : State) :
    emit t p a b s = { s with frames := s.frames ++ [⟨t, p, a, b, 0#8⟩], progress := some b } := rfl

/-- A parity report appends one marker when the fold is odd, and changes nothing else. -/
theorem reportParity_eq (p : Bit) (i : Nat) (s : State) :
    reportParity p i s = { s with marks := s.marks ++ (if p = 1#1 then [⟨i, .parityError, .dio⟩] else []) } := by
  unfold reportParity
  split <;> simp [State.addMark]

/-- WIN_PUSH writes the window and its tracker, nothing else. -/
theorem winPush_eq (b : Bit) (i : Nat) (s : State) :
    winPush b i s =
      { s with win := shiftIn s.win b, wcnt := min (s.wcnt + 1) 32, trk := s.trk.push i } := rfl

/-- WIN_CLEAR writes the window and its tracker, nothing else. -/
theorem winClear_eq (s : State) :
    winClear s = { s with win := 0#32, wcnt := 0, trk := ⟨0, 0, 0, 0, 0, 0, 0, 0⟩ } := rfl

/-- The step runs the operation its PHASE selects. -/
theorem fetch_eq (s : State) :
    fetch s = match s.phase.selects with
      | .ok i => some i
      | .error _ => none := by
  cases h : s.phase <;> simp [fetch, h] <;> rfl

end Sys2Proof.Machine
end

