-- ==== Sys2Proof/Laws/Cursor.lean ====
section
/-! SUPPORT. What each composite edge operation comes to, one equation per way in and per transition that may be missing
(40_cursor_ops.md R134 to R139). -/

namespace Sys2Proof.Machine

section
variable {s : State} {a b c : Nat}

/-- A resync that is not backward. -/
theorem resync_forward (h : s.dio.pos ≤ s.clk.pos) :
    resync s = .done (s.setDio ⟨s.clk.pos, s.mem.diot.level s.clk.pos⟩) :=
  gotoAbsOp_eq_done.mpr ⟨h, rfl⟩

theorem advMasterOp_low (hl : s.clk.lvl = 0#1) (ha : s.mem.clkt.nextEdge s.clk.pos = some a) (hd : s.dio.pos ≤ a) :
    advMasterOp s = .done (s.sampledAt a 1#1 .masterSample) := by
  simp [advMasterOp, nextEdgeIfLevel, nextEdgeOp, samplePoint, resync, gotoAbsOp, hl, ha, Nat.not_lt.mpr hd]
  simp [State.setClk, State.setDio, State.addMark]

theorem advMasterOp_high (hl : s.clk.lvl = 1#1) (ha : s.mem.clkt.nextEdge s.clk.pos = some a)
    (hb : s.mem.clkt.nextEdge a = some b) (hd : s.dio.pos ≤ b) :
    advMasterOp s = .done (s.sampledAt b 1#1 .masterSample) := by
  simp [advMasterOp, nextEdgeIfLevel, nextEdgeOp, samplePoint, resync, gotoAbsOp, hl, ha, hb, Nat.not_lt.mpr hd]
  simp [State.setClk, State.setDio, State.addMark]

theorem advMasterOp_none (ha : s.mem.clkt.nextEdge s.clk.pos = none) : advMasterOp s = .raised s := by
  simp [advMasterOp, nextEdgeIfLevel, nextEdgeOp, ha]
  split <;> simp [ha]

theorem advMasterOp_high_one (hl : s.clk.lvl = 1#1) (ha : s.mem.clkt.nextEdge s.clk.pos = some a)
    (hb : s.mem.clkt.nextEdge a = none) : advMasterOp s = .raised (s.setClk ⟨a, 0#1⟩) := by
  simp [advMasterOp, nextEdgeIfLevel, nextEdgeOp, hl, ha, hb]

theorem advSlaveOp_low (hl : s.clk.lvl = 0#1) (ha : s.mem.clkt.nextEdge s.clk.pos = some a)
    (hb : s.mem.clkt.nextEdge a = some b) (hd : s.dio.pos ≤ b) :
    advSlaveOp s = .done (s.sampledAt b 0#1 .slaveSample) := by
  simp [advSlaveOp, advSlaveWith, nextEdgeIfLevel, nextEdgeOp, samplePoint, resync, gotoAbsOp, hl, ha, hb,
    Nat.not_lt.mpr hd]
  simp [State.setClk, State.setDio, State.addMark]

theorem advSlaveOp_high (hl : s.clk.lvl = 1#1) (ha : s.mem.clkt.nextEdge s.clk.pos = some a)
    (hb : s.mem.clkt.nextEdge a = some b) (hc : s.mem.clkt.nextEdge b = some c) (hd : s.dio.pos ≤ c) :
    advSlaveOp s = .done (s.sampledAt c 0#1 .slaveSample) := by
  simp [advSlaveOp, advSlaveWith, nextEdgeIfLevel, nextEdgeOp, samplePoint, resync, gotoAbsOp, hl, ha, hb, hc,
    Nat.not_lt.mpr hd]
  simp [State.setClk, State.setDio, State.addMark]

theorem advSlaveOp_none (ha : s.mem.clkt.nextEdge s.clk.pos = none) : advSlaveOp s = .raised s := by
  simp [advSlaveOp, advSlaveWith, nextEdgeIfLevel, nextEdgeOp, ha]
  split <;> simp [ha]

/-- One transition left, whichever level: the cursor ends on it with its level toggled. -/
theorem advSlaveOp_one (ha : s.mem.clkt.nextEdge s.clk.pos = some a) (hb : s.mem.clkt.nextEdge a = none) :
    advSlaveOp s = .raised (s.setClk ⟨a, s.clk.lvl ^^^ 1#1⟩) := by
  simp [advSlaveOp, advSlaveWith, nextEdgeIfLevel, nextEdgeOp, ha]
  split <;> simp [ha, hb]

theorem advSlaveOp_high_two (hl : s.clk.lvl = 1#1) (ha : s.mem.clkt.nextEdge s.clk.pos = some a)
    (hb : s.mem.clkt.nextEdge a = some b) (hc : s.mem.clkt.nextEdge b = none) :
    advSlaveOp s = .raised (s.setClk ⟨b, 1#1⟩) := by
  simp [advSlaveOp, advSlaveWith, nextEdgeIfLevel, nextEdgeOp, hl, ha, hb, hc]
  rfl

theorem advEdgeOp_next (ha : s.mem.clkt.nextEdge s.clk.pos = some a) (hd : s.dio.pos ≤ a) :
    advEdgeOp s = .done (s.movedTo a (s.clk.lvl ^^^ 1#1)) := by
  simp [advEdgeOp, nextEdgeOp, resync, gotoAbsOp, ha, Nat.not_lt.mpr hd]
  simp [State.setClk, State.setDio]

theorem advEdgeOp_none (ha : s.mem.clkt.nextEdge s.clk.pos = none) : advEdgeOp s = .raised s := by
  simp [advEdgeOp, nextEdgeOp, ha]

theorem advTurnOp_next (ha : s.mem.clkt.nextEdge s.clk.pos = some a) (hb : s.mem.clkt.nextEdge a = some b)
    (hd : s.dio.pos ≤ b) : advTurnOp s = .done (s.movedTo b s.clk.lvl) := by
  simp [advTurnOp, nextEdgeOp, resync, gotoAbsOp, ha, hb, Nat.not_lt.mpr hd]
  simp [State.setClk, State.setDio]

theorem advTurnOp_none (ha : s.mem.clkt.nextEdge s.clk.pos = none) : advTurnOp s = .raised s := by
  simp [advTurnOp, nextEdgeOp, ha]

theorem advTurnOp_one (ha : s.mem.clkt.nextEdge s.clk.pos = some a) (hb : s.mem.clkt.nextEdge a = none) :
    advTurnOp s = .raised (s.setClk ⟨a, s.clk.lvl ^^^ 1#1⟩) := by
  simp [advTurnOp, nextEdgeOp, ha, hb]

end

end Sys2Proof.Machine
end

