-- ==== Sys2Proof/Laws/Parity.lean ====
section
/-! SUPPORT. The parity fold counts set bits modulo 2; over a span with hi < lo it is the free value (41_window_match_parity.md R154). -/

namespace Sys2Proof.Machine

theorem xorFold_eq_count (v lo n : Nat) :
    xorFold v lo n =
      BitVec.ofNat 1 (((List.range (lo + n)).filter fun i => decide (lo ≤ i) && v.testBit i).length % 2) := by
  induction n with
  | zero =>
    have h : (List.range lo).filter (fun i => decide (lo ≤ i) && v.testBit i) = [] := by
      rw [List.filter_eq_nil_iff]
      intro i hi
      simp at hi ⊢
      omega
    simp [xorFold, h]
  | succ n ih =>
    rw [xorFold, ih, ← Nat.add_assoc, List.range_succ, List.filter_append, List.length_append]
    generalize ((List.range (lo + n)).filter fun i => decide (lo ≤ i) && v.testBit i).length = k
    by_cases hb : v.testBit (lo + n)
    · rcases Nat.mod_two_eq_zero_or_one k with hk | hk <;> simp [hb, hk, Nat.add_mod]
    · simp [hb]

theorem parityOf_eq_setBits {v hi lo : Nat} (h : lo ≤ hi) : parityOf v hi lo = BitVec.ofNat 1 (setBits v hi lo % 2) := by
  rw [parityOf, if_neg (Nat.not_lt.mpr h), xorFold_eq_count, setBits, Nat.add_sub_cancel' (by omega)]

/-- Over a span with hi < lo the parity is the free value. -/
theorem parityOf_emptySpan {v hi lo : Nat} (h : hi < lo) : parityOf v hi lo = Config.emptySpanParity v hi lo :=
  if_pos h

/-- A parity report of a span appends `parityMarks` and changes nothing else. -/
theorem reportParity_span {v hi lo : Nat} (h : lo ≤ hi) (i : Nat) (s : State) :
    reportParity (parityOf v hi lo) i s = { s with marks := s.marks ++ parityMarks v hi lo i } := by
  rw [reportParity_eq, parityMarks, parityOf_eq_setBits h]
  rcases Nat.mod_two_eq_zero_or_one (setBits v hi lo) with hk | hk <;> simp [hk]

end Sys2Proof.Machine
end

