-- ==== Sys2Proof/Laws/PerInstr.lean ====
section
/-! SUPPORT. The family WordOfFormat: the word of every operation has the format its row of spec/opcode_table.json gives it, with
the row's fixed bits. -/

namespace Sys2Proof.Laws.WordOfFormat

/-- The word is a window byte with these fixed bits (30_encoding.md R92, R95). -/
def WindowRow (i : Instr) (mask value : Byte) : Prop :=
  ∃ b, encode i = some (.window b) ∧ b &&& mask = value

/-- The word is a window byte of neither pattern (30_encoding.md R107). -/
def NoPattern (i : Instr) : Prop :=
  i.wf = true → ∃ b, encode i = some (.window b) ∧ b &&& 0xFF#8 ≠ 0x00#8 ∧ b &&& 0x83#8 ≠ 0x81#8

/-- The word is an acknowledge value without a name (30_encoding.md R98). -/
def NoAckName (i : Instr) : Prop :=
  i.wf = true → ∃ v, encode i = some (.ack v) ∧ v ≠ 0b001#3 ∧ v ≠ 0b010#3 ∧ v ≠ 0b100#3

/-- The word is a Frame record of a used type code with flags 0 (30_encoding.md R101, R102, R104). -/
def FrameRow (i : Instr) : Prop :=
  i.wf = true → ∃ t p a b, encode i = some (.frame t p a b 0#8) ∧ t.toNat ≤ 4 ∧ a ≤ b

/-- The word is an annotation record of a used kind on that kind's channel (30_encoding.md R105). -/
def MarkRow (i : Instr) : Prop :=
  i.wf = true → ∃ s k c, encode i = some (.mark s k c) ∧ (k = 0#2 ∧ c = 0#1 ∨ k = 1#2 ∧ c = 0#1 ∨ k = 2#2 ∧ c = 1#1)

/-- The word is one progress value (30_encoding.md R106). -/
def ProgRow (i : Instr) : Prop :=
  ∃ s, encode i = some (.prog s)

/-- The word is the PHASE code of a step (10_state.md R34). -/
def PhaseRow (i : Instr) (code : Nat) : Prop :=
  ∃ c : BitVec 4, encode i = some (.phase c) ∧ c.toNat = code

/-- What the table says of the operation's word; an operation without a bit encoding has none (30_encoding.md R110). -/
def Statement (i : Instr) : Prop :=
  match i with
  | .reset => WindowRow i 0xFF#8 0x00#8
  | .requestR _ _ _ _ => WindowRow i 0xA3#8 0xA1#8
  | .requestW _ _ _ _ => WindowRow i 0xA3#8 0x81#8
  | .noframe _ => NoPattern i
  | .ackOk => encode i = some (.ack 0b001#3)
  | .ackWait => encode i = some (.ack 0b010#3)
  | .ackFault => encode i = some (.ack 0b100#3)
  | .ackOther _ => NoAckName i
  | .dataR d par => encode i = some (.data 1#1 (d ++ par))
  | .dataW d par => encode i = some (.data 0#1 (d ++ par))
  | .turn => encode i = some .turn
  | .frame _ => FrameRow i
  | .mark _ => MarkRow i
  | .prog _ => ProgRow i
  | .nextEdge => encode i = none
  | .gotoAbs _ => encode i = none
  | .level _ => encode i = none
  | .advMaster => encode i = none
  | .advSlave => encode i = none
  | .advEdge => encode i = none
  | .advTurn => encode i = none
  | .winPush _ _ => encode i = none
  | .winClear => encode i = none
  | .subShift _ _ => encode i = none
  | .matchReset => encode i = none
  | .matchRequest => encode i = none
  | .parity _ _ _ => encode i = none
  | .step => encode i = none
  | .scan => PhaseRow i 0
  | .resetClose => PhaseRow i 1
  | .reqClose => PhaseRow i 2
  | .emitFrame _ _ _ _ => encode i = none
  | .markOp _ _ _ => encode i = none
  | .reportProgress _ => encode i = none
  | .decode => encode i = none
  | .turn1 => PhaseRow i 3
  | .ack => PhaseRow i 4
  | .ackClose => PhaseRow i 5
  | .turn2 => PhaseRow i 6
  | .data => PhaseRow i 7
  | .dataClose => PhaseRow i 8
  | .turn3 => PhaseRow i 9
  | .dispatch => encode i = none

theorem reset : Statement .reset :=
  ⟨_, rfl, by decide⟩

theorem requestR (apndp addr3 addr2 par : Bit) : Statement (.requestR apndp addr3 addr2 par) :=
  ⟨_, rfl, by revert apndp addr3 addr2 par; decide⟩

theorem requestW (apndp addr3 addr2 par : Bit) : Statement (.requestW apndp addr3 addr2 par) :=
  ⟨_, rfl, by revert apndp addr3 addr2 par; decide⟩

theorem noframe (b : Byte) : Statement (.noframe b) := by
  intro h
  simp [Instr.wf, Config.resetMask, Config.resetMatch] at h
  exact ⟨b, rfl, by simpa using h.1, h.2⟩

theorem ackOk : Statement .ackOk :=
  rfl

theorem ackWait : Statement .ackWait :=
  rfl

theorem ackFault : Statement .ackFault :=
  rfl

theorem ackOther (v : BitVec 3) : Statement (.ackOther v) := by
  intro h
  simp [Instr.wf] at h
  exact ⟨v, rfl, h.1.1, h.1.2, h.2⟩

theorem dataR (d : BitVec 32) (par : Bit) : Statement (.dataR d par) :=
  rfl

theorem dataW (d : BitVec 32) (par : Bit) : Statement (.dataW d par) :=
  rfl

theorem turn : Statement .turn :=
  rfl

theorem frame (r : FrameRec) : Statement (.frame r) := by
  intro h
  simp [Instr.wf, FrameRec.wf] at h
  refine ⟨_, _, _, _, by rw [encode, h.2], ?_, h.1.2⟩
  cases r.type <;> decide

theorem mark (m : MarkRec) : Statement (.mark m) := by
  intro h
  simp [Instr.wf, MarkRec.wf] at h
  refine ⟨_, _, _, rfl, ?_⟩
  rw [h]
  cases m.kind <;> decide

theorem prog (s : Nat) : Statement (.prog s) :=
  ⟨_, rfl⟩

theorem nextEdge : Statement .nextEdge :=
  rfl

theorem gotoAbs (s : Nat) : Statement (.gotoAbs s) :=
  rfl

theorem level (c : CursorName) : Statement (.level c) :=
  rfl

theorem advMaster : Statement .advMaster :=
  rfl

theorem advSlave : Statement .advSlave :=
  rfl

theorem advEdge : Statement .advEdge :=
  rfl

theorem advTurn : Statement .advTurn :=
  rfl

theorem winPush (b : Bit) (s : Nat) : Statement (.winPush b s) :=
  rfl

theorem winClear : Statement .winClear :=
  rfl

theorem subShift (x : SubWindow) (b : Bit) : Statement (.subShift x b) :=
  rfl

theorem matchReset : Statement .matchReset :=
  rfl

theorem matchRequest : Statement .matchRequest :=
  rfl

theorem parity (v hi lo : Nat) : Statement (.parity v hi lo) :=
  rfl

theorem step : Statement .step :=
  rfl

theorem scan : Statement .scan :=
  ⟨_, rfl, rfl⟩

theorem resetClose : Statement .resetClose :=
  ⟨_, rfl, rfl⟩

theorem reqClose : Statement .reqClose :=
  ⟨_, rfl, rfl⟩

theorem emitFrame (t : FrameType) (p : BitVec 64) (a b : Nat) : Statement (.emitFrame t p a b) :=
  rfl

theorem markOp (i : Nat) (k : MarkKind) (c : Channel) : Statement (.markOp i k c) :=
  rfl

theorem reportProgress (s : Nat) : Statement (.reportProgress s) :=
  rfl

theorem decode : Statement .decode :=
  rfl

theorem turn1 : Statement .turn1 :=
  ⟨_, rfl, rfl⟩

theorem ack : Statement .ack :=
  ⟨_, rfl, rfl⟩

theorem ackClose : Statement .ackClose :=
  ⟨_, rfl, rfl⟩

theorem turn2 : Statement .turn2 :=
  ⟨_, rfl, rfl⟩

theorem data : Statement .data :=
  ⟨_, rfl, rfl⟩

theorem dataClose : Statement .dataClose :=
  ⟨_, rfl, rfl⟩

theorem turn3 : Statement .turn3 :=
  ⟨_, rfl, rfl⟩

theorem dispatch : Statement .dispatch :=
  rfl

end Sys2Proof.Laws.WordOfFormat
end

