-- ==== Sys2Proof/Laws/Step.lean ====
section
/-! SUPPORT. What one step can do, said once: the step is the rule PHASE selects, and a next state is an honoured stop,
TraceExhausted, or the completed composite of that rule followed by its register writes. -/

namespace Sys2Proof.Machine

/-- A step is the host's turn, then STEP's rule for its PHASE. -/
theorem step_eq (s : State) : step s = execStep s.hostMoved := by
  unfold step execStep
  rw [fetch_eq, State.hostMoved_phase]
  cases h : s.phase <;> simp [Phase.selects, exec]

/-- What a SCAN step writes after its ADV_MASTER. -/
def afterScan (a : State) : State :=
  (pushSample a).setPhase (scanChoice (pushSample a))

/-- What an ACK step writes after its ADV_SLAVE. -/
def afterAckBit (first : Bool) (a : State) : State :=
  countBit 3 .ack .ackClose (subShift .ackw a.dio.lvl (noteStart first a))

/-- What a DATA step writes after its sampling operation. -/
def afterDataBit (first : Bool) (a : State) : State :=
  countBit 33 .data .dataClose (subShift .datw a.dio.lvl ((noteStart first a).setParpos a.clk.pos))

/-- SUBSTART and nothing else. -/
theorem noteStart_eq (first : Bool) (a : State) :
    noteStart first a = { a with substart := if first then a.clk.pos else a.substart } := by
  cases first <;> rfl

/-- An ACK step's writes: SUBSTART, ACKW, BITCNT and PHASE. -/
theorem afterAckBit_eq (first : Bool) (a : State) :
    afterAckBit first a =
      { a with
        substart := if first then a.clk.pos else a.substart
        ackw := shiftIn a.ackw a.dio.lvl
        bitcnt := a.bitcnt + 1
        phase := if a.bitcnt + 1 = 3 then .ackClose else .ack } := by
  rw [afterAckBit, noteStart_eq]
  rfl

/-- A DATA step's writes: SUBSTART, PARPOS, DATW, BITCNT and PHASE. -/
theorem afterDataBit_eq (first : Bool) (a : State) :
    afterDataBit first a =
      { a with
        substart := if first then a.clk.pos else a.substart
        parpos := a.clk.pos
        datw := shiftIn a.datw a.dio.lvl
        bitcnt := a.bitcnt + 1
        phase := if a.bitcnt + 1 = 33 then .dataClose else .data } := by
  rw [afterDataBit, noteStart_eq]
  rfl

/-- The next states of STEP, one constructor per way to reach one. -/
inductive StepTo (s : State) : State → Prop where
  | stopped (hp : s.phase = .scan) (hs : s.stopreq = true) : StepTo s (s.halt .stopped)
  | exhausted (hr : s.Running) (hs : ¬ (s.phase = .scan ∧ s.stopreq = true)) (c : Cursor) (hc : Exhausts s c) :
      StepTo s ((s.setClk c).halt .traceExhausted)
  | scan (hp : s.phase = .scan) (hs : s.stopreq = false) (e : Nat) (he : Reaches s ⟨e, 1#1⟩) :
      StepTo s (afterScan (s.advancedTo ⟨e, 1#1⟩ [⟨e, .masterSample, .clk⟩]))
  | resetClose (hp : s.phase = .resetClose) (e : Nat) (he : Reaches s ⟨e, s.clk.lvl ^^^ 1#1⟩) :
      StepTo s ((closeReset (lowByte s) (s.advancedTo ⟨e, s.clk.lvl ^^^ 1#1⟩ [])).setPhase .scan)
  | reqClose (hp : s.phase = .reqClose) (e : Nat) (he : Reaches s ⟨e, s.clk.lvl ^^^ 1#1⟩) :
      StepTo s ((closeRequest (lowByte s) (s.advancedTo ⟨e, s.clk.lvl ^^^ 1#1⟩ [])).setPhase .turn1)
  | turn1 (hp : s.phase = .turn1) (e : Nat) (he : Reaches s ⟨e, s.clk.lvl⟩) :
      StepTo s ((((s.advancedTo ⟨e, s.clk.lvl⟩ []).setAckw 0#3).setBitcnt 0).setPhase .ack)
  | ack (hp : s.phase = .ack) (e : Nat) (he : Reaches s ⟨e, 0#1⟩) :
      StepTo s (afterAckBit (decide (s.bitcnt = 0)) (s.advancedTo ⟨e, 0#1⟩ [⟨e, .slaveSample, .clk⟩]))
  | ackClose (hp : s.phase = .ackClose) (e : Nat) (he : Reaches s ⟨e, s.clk.lvl ^^^ 1#1⟩) :
      StepTo s ((((closeAck s.ackw (s.advancedTo ⟨e, s.clk.lvl ^^^ 1#1⟩ [])).setDatw 0#33).setBitcnt 0).setPhase
        (match s.tt with | .write => .turn2 | .read => .data))
  | turn2 (hp : s.phase = .turn2) (e : Nat) (he : Reaches s ⟨e, s.clk.lvl⟩) :
      StepTo s ((s.advancedTo ⟨e, s.clk.lvl⟩ []).setPhase .data)
  | dataRead (hp : s.phase = .data) (ht : s.tt = .read) (e : Nat) (he : Reaches s ⟨e, 0#1⟩) :
      StepTo s (afterDataBit (decide (s.bitcnt = 0)) (s.advancedTo ⟨e, 0#1⟩ [⟨e, .slaveSample, .clk⟩]))
  | dataWrite (hp : s.phase = .data) (ht : s.tt = .write) (e : Nat) (he : Reaches s ⟨e, 1#1⟩) :
      StepTo s (afterDataBit (decide (s.bitcnt = 0)) (s.advancedTo ⟨e, 1#1⟩ [⟨e, .masterSample, .clk⟩]))
  | readClose (hp : s.phase = .dataClose) (ht : s.tt = .read) (e : Nat) (he : Reaches s ⟨e, s.clk.lvl ^^^ 1#1⟩) :
      StepTo s ((closeData .read s.datw (s.advancedTo ⟨e, s.clk.lvl ^^^ 1#1⟩ [])).setPhase .turn3)
  | writeClose (hp : s.phase = .dataClose) (ht : s.tt = .write) (e : Nat) (he : Reaches s ⟨e, s.clk.lvl ^^^ 1#1⟩) :
      StepTo s ((winClear (closeData .write s.datw (s.advancedTo ⟨e, s.clk.lvl ^^^ 1#1⟩ []))).setPhase .scan)
  | turn3 (hp : s.phase = .turn3) (e : Nat) (he : Reaches s ⟨e, s.clk.lvl⟩) :
      StepTo s ((winClear (s.advancedTo ⟨e, s.clk.lvl⟩ [])).setPhase .scan)

/-- A rule that runs a composite and then writes registers: its next states. -/
theorem compositeThen_next {adv k : State → Ran} {f : State → State} {s t : State}
    (hk : ∀ a, k a = .done (f a)) (h : ((adv s).andThen k).outcome = .next t) :
    (∃ a, adv s = .done a ∧ t = f a) ∨ ∃ u, adv s = .raised u ∧ t = u.halt .traceExhausted := by
  rw [Ran.outcome_eq_next] at h
  simp only [Ran.andThen_eq_done, Ran.andThen_eq_raised, hk] at h
  rcases h with ⟨a, ha, hb⟩ | ⟨u, hu | ⟨a, _, hb⟩, ht⟩
  · exact .inl ⟨a, ha, (Ran.done.inj hb).symm⟩
  · exact .inr ⟨u, hu, ht⟩
  · cases hb

theorem execStep_cases {s t : State} (h : execStep s = .next t) : StepTo s t := by
  have hr : s.Running := by
    intro hp
    simp [execStep, hp] at h
  cases hp : s.phase <;> simp only [execStep, hp] at h
  case scan =>
    rw [execScan, runOp_running hr, scanOp] at h
    split at h
    · next hs =>
      cases h
      exact .stopped hp hs
    · next hs =>
      rcases compositeThen_next (fun _ => rfl) h with ⟨a, ha, rfl⟩ | ⟨u, hu, rfl⟩
      · obtain ⟨e, he, rfl⟩ := advMasterOp_done ha
        exact .scan hp (by simpa using hs) e he
      · obtain ⟨c, hc, rfl⟩ := advMasterOp_raised hu
        exact .exhausted hr (fun hx => hs hx.2) c hc
  case resetClose =>
    rw [execResetClose, runOp_running hr, resetCloseOp] at h
    rcases compositeThen_next (fun _ => rfl) h with ⟨a, ha, rfl⟩ | ⟨u, hu, rfl⟩
    · obtain ⟨e, he, rfl⟩ := advEdgeOp_done ha
      exact .resetClose hp e he
    · obtain ⟨c, hc, rfl⟩ := advEdgeOp_raised hu
      exact .exhausted hr (by simp [hp]) c hc
  case reqClose =>
    rw [execReqClose, runOp_running hr, reqCloseOp] at h
    rcases compositeThen_next (fun _ => rfl) h with ⟨a, ha, rfl⟩ | ⟨u, hu, rfl⟩
    · obtain ⟨e, he, rfl⟩ := advEdgeOp_done ha
      exact .reqClose hp e he
    · obtain ⟨c, hc, rfl⟩ := advEdgeOp_raised hu
      exact .exhausted hr (by simp [hp]) c hc
  case turn1 =>
    rw [execTurn1, runOp_running hr, turn1Op] at h
    rcases compositeThen_next (fun _ => rfl) h with ⟨a, ha, rfl⟩ | ⟨u, hu, rfl⟩
    · obtain ⟨e, he, rfl⟩ := advTurnOp_done ha
      exact .turn1 hp e he
    · obtain ⟨c, hc, rfl⟩ := advTurnOp_raised hu
      exact .exhausted hr (by simp [hp]) c hc
  case ack =>
    rw [execAck, runOp_running hr, ackOp, ackSample, Ran.andThen_assoc] at h
    rcases compositeThen_next (fun _ => rfl) h with ⟨a, ha, rfl⟩ | ⟨u, hu, rfl⟩
    · obtain ⟨e, he, rfl⟩ := advSlaveOp_done ha
      exact .ack hp e he
    · obtain ⟨c, hc, rfl⟩ := advSlaveOp_raised hu
      exact .exhausted hr (by simp [hp]) c hc
  case ackClose =>
    rw [execAckClose, runOp_running hr, ackCloseOp] at h
    rcases compositeThen_next (fun _ => rfl) h with ⟨a, ha, rfl⟩ | ⟨u, hu, rfl⟩
    · obtain ⟨e, he, rfl⟩ := advEdgeOp_done ha
      exact .ackClose hp e he
    · obtain ⟨c, hc, rfl⟩ := advEdgeOp_raised hu
      exact .exhausted hr (by simp [hp]) c hc
  case turn2 =>
    rw [execTurn2, runOp_running hr, turn2Op] at h
    rcases compositeThen_next (fun _ => rfl) h with ⟨a, ha, rfl⟩ | ⟨u, hu, rfl⟩
    · obtain ⟨e, he, rfl⟩ := advTurnOp_done ha
      exact .turn2 hp e he
    · obtain ⟨c, hc, rfl⟩ := advTurnOp_raised hu
      exact .exhausted hr (by simp [hp]) c hc
  case turn3 =>
    rw [execTurn3, runOp_running hr, turn3Op] at h
    rcases compositeThen_next (fun _ => rfl) h with ⟨a, ha, rfl⟩ | ⟨u, hu, rfl⟩
    · obtain ⟨e, he, rfl⟩ := advTurnOp_done ha
      exact .turn3 hp e he
    · obtain ⟨c, hc, rfl⟩ := advTurnOp_raised hu
      exact .exhausted hr (by simp [hp]) c hc
  case data =>
    rw [execData, runOp_running hr, dataOp, dataSample, Ran.andThen_assoc] at h
    rcases compositeThen_next (fun _ => rfl) h with ⟨a, ha, rfl⟩ | ⟨u, hu, rfl⟩ <;> cases ht : s.tt
    all_goals first | rw [ht] at ha | rw [ht] at hu
    · obtain ⟨e, he, rfl⟩ := advMasterOp_done ha
      exact .dataWrite hp ht e he
    · obtain ⟨e, he, rfl⟩ := advSlaveOp_done ha
      exact .dataRead hp ht e he
    · obtain ⟨c, hc, rfl⟩ := advMasterOp_raised hu
      exact .exhausted hr (by simp [hp]) c hc
    · obtain ⟨c, hc, rfl⟩ := advSlaveOp_raised hu
      exact .exhausted hr (by simp [hp]) c hc
  case dataClose =>
    rw [execDataClose, runOp_running hr, dataCloseOp] at h
    cases ht : s.tt <;> simp only [ht] at h <;>
      rcases compositeThen_next (fun _ => rfl) h with ⟨a, ha, rfl⟩ | ⟨u, hu, rfl⟩
    · obtain ⟨e, he, rfl⟩ := advEdgeOp_done ha
      exact .writeClose hp ht e he
    · obtain ⟨c, hc, rfl⟩ := advEdgeOp_raised hu
      exact .exhausted hr (by simp [hp]) c hc
    · obtain ⟨e, he, rfl⟩ := advEdgeOp_done ha
      exact .readClose hp ht e he
    · obtain ⟨c, hc, rfl⟩ := advEdgeOp_raised hu
      exact .exhausted hr (by simp [hp]) c hc
  case halted => exact absurd hp hr

/-- A step's next states: those of STEP after the host's turn. -/
theorem step_cases {s t : State} (h : step s = .next t) : StepTo s.hostMoved t :=
  execStep_cases (step_eq s ▸ h)

/-- A step answers only while running. -/
theorem running_of_step {s t : State} (h : step s = .next t) : s.Running := by
  intro hp
  rw [step_eq] at h
  simp [execStep, hp] at h

/-- A step leaves both traces as they are. -/
theorem step_mem {s t : State} (h : step s = .next t) : t.mem = s.mem := by
  cases step_cases h <;>
    simp [afterScan, pushSample, winPush_eq, afterAckBit_eq, afterDataBit_eq, closeReset, closeRequest, closeAck, closeData,
      emit_eq, reportParity_eq, winClear_eq]

/-- A step keeps the traces' canonical form. -/
theorem step_keeps_wf {s t : State} (h : step s = .next t) (hw : s.mem.wf) : t.mem.wf := by
  rw [step_mem h]
  exact hw

end Sys2Proof.Machine
end

