-- ==== Sys2Proof/Tests/Slice0.lean ====
section
/-! SUPPORT. The model's own tests: ill-formed terms the check refuses, words written out from the spec's encodings, one or two
steps per operation with the result 95_test_vectors.md gives, and for every statement with hypotheses a state that meets them. -/

namespace Sys2Proof.Tests

open Sys2Proof Sys2Proof.Machine

/-! Helpers. -/

/-- The next state of an outcome. -/
def after : Host.Outcome State Fault Refusal → Option State
  | .next s => some s
  | .fault _ => none
  | .refused _ => none

/-- `CLOCK std(n)` without its last `cut` transitions (30_encoding.md R111). -/
def std (n cut : Nat) : Trace :=
  ⟨0#1, (List.range (2 * n - cut)).map fun k => 10 + 5 * k⟩

/-- DIOT of 95_test_vectors.md section 2. -/
def dio2 : Trace := ⟨0#1, [8, 18]⟩

/-- Both cursors at `p`, the clock at level `l`, on `CLOCK std(4)`. -/
def stand (p : Nat) (l : Bit) : State :=
  { State.created (std 4 0) dio2 with clk := ⟨p, l⟩, dio := ⟨p, dio2.level p⟩ }

/-- The same in a given PHASE. -/
def standIn (ph : Phase) (p : Nat) (l : Bit) : State :=
  { stand p l with phase := ph }

/-- The state of vectors S4 and P3 after eight SCAN steps: a Request byte matched, both cursors at R_8 = 80. -/
def matched (n cut : Nat) (data : Trace) (b : Byte) : State :=
  { State.created (std n cut) data with
    clk := ⟨80, 1#1⟩
    dio := ⟨80, 1#1⟩
    win := b.setWidth 32
    wcnt := 8
    trk := ⟨80, 70, 60, 50, 40, 30, 20, 10⟩
    phase := .reqClose
    marks := [10, 20, 30, 40, 50, 60, 70, 80].map fun i => ⟨i, .masterSample, .clk⟩ }

/-- The data trace of S4: the bits of 0xA9 at R_1 to R_8. -/
def dataA9 : Trace := ⟨0#1, [8, 18, 28, 38, 48, 58, 78]⟩

/-- The data trace of P3: the bits of 0x95 at R_1 to R_8, and the rest of its Write. -/
def data95 : Trace := ⟨0#1, [8, 18, 38, 48, 58, 68, 78, 103, 113, 123, 178, 188, 208, 218, 248, 268, 278, 288, 318, 328, 338,
  348, 358, 378, 398, 438, 468]⟩

/-! WellFormed: an ill-formed term for each check. -/

theorem test_noframe_of_reset_byte_is_illFormed : (Instr.noframe 0x00#8).wf = false := by decide
theorem test_noframe_of_request_byte_is_illFormed : (Instr.noframe 0x81#8).wf = false := by decide
theorem test_noframe_is_wellFormed : (Instr.noframe 0x83#8).wf = true := by decide
theorem test_ackOther_of_named_values_is_illFormed :
    (Instr.ackOther 1#3).wf = false ∧ (Instr.ackOther 2#3).wf = false ∧ (Instr.ackOther 4#3).wf = false := by decide
theorem test_frame_payload_too_wide_is_illFormed : (Instr.frame ⟨.ack, 8#64, 1, 2, 0#8⟩).wf = false := by decide
theorem test_frame_data_payload_too_wide_is_illFormed :
    (Instr.frame ⟨.read, 0x200000000#64, 1, 2, 0#8⟩).wf = false ∧
    (Instr.frame ⟨.write, 0x200000000#64, 1, 2, 0#8⟩).wf = false := by decide
theorem test_frame_reset_payload_not_zero_is_illFormed : (Instr.frame ⟨.reset, 1#64, 1, 2, 0#8⟩).wf = false := by decide
theorem test_frame_request_payload_not_a_request_is_illFormed :
    (Instr.frame ⟨.request, 0x83#64, 1, 2, 0#8⟩).wf = false ∧
    (Instr.frame ⟨.request, 0x1A9#64, 1, 2, 0#8⟩).wf = false := by decide
theorem test_frame_range_backward_is_illFormed : (Instr.frame ⟨.ack, 1#64, 130, 105, 0#8⟩).wf = false := by decide
theorem test_frame_flags_not_zero_is_illFormed : (Instr.frame ⟨.ack, 1#64, 105, 130, 1#8⟩).wf = false := by decide
theorem test_mark_on_wrong_channel_is_illFormed :
    (Instr.mark ⟨60, .parityError, .clk⟩).wf = false ∧ (Instr.mark ⟨60, .masterSample, .dio⟩).wf = false ∧
    (Instr.markOp 60 .slaveSample .dio).wf = false := by decide
theorem test_parity_of_empty_span_is_illFormed : (Instr.parity 0xA9 2 6).wf = false := by decide
theorem test_emitFrame_range_backward_is_illFormed : (Instr.emitFrame .ack 1#64 130 105).wf = false := by decide

/-! Decode: words written out from 30_encoding.md R92 to R99, R101 to R106 and 10_state.md R34. -/

theorem test_decode_reset : decode (.window 0b00000000#8) = .ok .reset := by rfl
/-- 0xA9 of P2: Start 1, APnDP 0, RnW 1, Addr[3] 0, Addr[2] 1, Parity 0, Stop 0, Park 1. -/
theorem test_decode_requestR : decode (.window 0b10101001#8) = .ok (.requestR 0#1 0#1 1#1 0#1) := by rfl
/-- 0x95 of P3: Start 1, APnDP 0, RnW 0, Addr[3] 1, Addr[2] 0, Parity 1, Stop 0, Park 1. -/
theorem test_decode_requestW : decode (.window 0b10010101#8) = .ok (.requestW 0#1 1#1 0#1 1#1) := by rfl
theorem test_decode_requestW_apndp : decode (.window 0b11000001#8) = .ok (.requestW 1#1 0#1 0#1 0#1) := by rfl
/-- M2c and M2b: Stop is 1, Park is 0. -/
theorem test_decode_noframe :
    decode (.window 0b10000011#8) = .ok (.noframe 0x83#8) ∧ decode (.window 0b11111110#8) = .ok (.noframe 0xFE#8) := ⟨rfl, rfl⟩
theorem test_decode_ackOk : decode (.ack 0b001#3) = .ok .ackOk := by rfl
theorem test_decode_ackWait : decode (.ack 0b010#3) = .ok .ackWait := by rfl
theorem test_decode_ackFault : decode (.ack 0b100#3) = .ok .ackFault := by rfl
theorem test_decode_ackOther : decode (.ack 0b101#3) = .ok (.ackOther 5#3) := by rfl
/-- W8: the 33 bits of P2, 0xDEADBEEF most significant bit first, then parity 0. -/
theorem test_decode_dataR :
    decode (.data 1#1 0b110111101010110110111110111011110#33) = .ok (.dataR 0xDEADBEEF#32 0#1) := by rfl
/-- P3: 0x12345678, then parity 1, is 0x2468ACF1. -/
theorem test_decode_dataW : decode (.data 0#1 0x02468ACF1#33) = .ok (.dataW 0x12345678#32 1#1) := by rfl
theorem test_decode_turn : decode .turn = .ok .turn := by rfl
theorem test_decode_frame :
    decode (.frame 0b010#3 0x1#64 105 130 0x00#8) = .ok (.frame ⟨.ack, 1#64, 105, 130, 0#8⟩) ∧
    decode (.frame 0b100#3 0x2468ACF1#64 150 475 0x00#8) = .ok (.frame ⟨.write, 0x2468ACF1#64, 150, 475, 0#8⟩) := ⟨rfl, rfl⟩
theorem test_decode_mark :
    decode (.mark 135 0b01#2 0b0#1) = .ok (.mark ⟨135, .slaveSample, .clk⟩) ∧
    decode (.mark 90 0b10#2 0b1#1) = .ok (.mark ⟨90, .parityError, .dio⟩) := ⟨rfl, rfl⟩
theorem test_decode_prog : decode (.prog 500) = .ok (.prog 500) := by rfl
theorem test_decode_phases :
    decode (.phase 0b0000#4) = .ok .scan ∧ decode (.phase 0b0001#4) = .ok .resetClose ∧
    decode (.phase 0b0010#4) = .ok .reqClose ∧ decode (.phase 0b0011#4) = .ok .turn1 ∧
    decode (.phase 0b0100#4) = .ok .ack ∧ decode (.phase 0b0101#4) = .ok .ackClose ∧
    decode (.phase 0b0110#4) = .ok .turn2 ∧ decode (.phase 0b0111#4) = .ok .data ∧
    decode (.phase 0b1000#4) = .ok .dataClose ∧ decode (.phase 0b1001#4) = .ok .turn3 :=
  ⟨rfl, rfl, rfl, rfl, rfl, rfl, rfl, rfl, rfl, rfl⟩
theorem test_decode_reserved :
    decode (.phase 0b1010#4) = .error .haltedPhase ∧ decode (.phase 0b1011#4) = .error .unusedPhaseCode ∧
    decode (.frame 0b101#3 0#64 1 2 0#8) = .error .reservedFrameType ∧
    decode (.frame 0b010#3 1#64 1 2 4#8) = .error .reservedFlags ∧
    decode (.frame 0b010#3 8#64 1 2 0#8) = .error .malformedFrame ∧
    decode (.mark 1 0b11#2 0#1) = .error .reservedMarkKind ∧
    decode (.mark 1 0b10#2 0#1) = .error .markOnWrongChannel :=
  ⟨rfl, rfl, rfl, rfl, rfl, rfl, rfl⟩
theorem test_decodeTableWord :
    decodeTableWord 8 0xA9 = some (.requestR 0#1 0#1 1#1 0#1) ∧ decodeTableWord 8 0 = some .reset ∧
    decodeTableWord 8 4 = some .ackFault ∧ decodeTableWord 0 0 = some .turn ∧
    decodeTableWord 40 0x2468ACF1 = some (.dataW 0x12345678#32 1#1) := ⟨rfl, rfl, rfl, rfl, rfl⟩

/-! Steps: the cursor family (vectors E1 to E22). -/

theorem test_nextEdge_E1 : after (exec .nextEdge (stand 0 0#1)) = some { stand 0 0#1 with clk := ⟨10, 1#1⟩ } := by decide
/-- E3: no transition after 45; TraceExhausted halts, the position unchanged. -/
theorem test_nextEdge_E3 :
    after (exec .nextEdge (stand 45 0#1)) =
      some { stand 45 0#1 with phase := .halted, hcause := .traceExhausted } := by decide
/-- E8: the transition at 8 is in effect at 8. -/
theorem test_gotoAbs_E8 : after (exec (.gotoAbs 8) (stand 0 0#1)) = some { stand 0 0#1 with dio := ⟨8, 1#1⟩ } := by decide
theorem test_gotoAbs_E10 : exec (.gotoAbs 5) (stand 10 1#1) = .refused .backwardMove := by rfl
theorem test_level : after (exec (.level .dio) (stand 10 1#1)) = some { stand 10 1#1 with ret := .bit 1#1 } := by decide
theorem test_advMaster_E12 :
    after (exec .advMaster (stand 10 1#1)) =
      some { stand 20 1#1 with marks := [⟨20, .masterSample, .clk⟩], ret := .index 20 } := by decide
/-- E13: passes 45, then TraceExhausted; DIO unchanged, no marker. -/
theorem test_advMaster_E13 :
    after (exec .advMaster (stand 40 1#1)) =
      some { stand 40 1#1 with clk := ⟨45, 0#1⟩, phase := .halted, hcause := .traceExhausted } := by decide
theorem test_advSlave_E14 :
    after (exec .advSlave (stand 15 0#1)) =
      some { stand 25 0#1 with marks := [⟨25, .slaveSample, .clk⟩], ret := .index 25 } := by decide
/-- E15: passes 25 and 30, lands 35. -/
theorem test_advSlave_E15 :
    after (exec .advSlave (stand 20 1#1)) =
      some { stand 35 0#1 with marks := [⟨35, .slaveSample, .clk⟩], ret := .index 35 } := by decide
theorem test_advEdge_E18 : after (exec .advEdge (stand 10 1#1)) = some (stand 15 0#1) := by decide
theorem test_advEdge_E19 : after (exec .advEdge (stand 25 0#1)) = some (stand 30 1#1) := by decide
theorem test_advTurn_E21 : after (exec .advTurn (stand 30 1#1)) = some (stand 40 1#1) := by decide
/-- E22: the first NEXT_EDGE to 45, the second raises; DIO stays at 40. -/
theorem test_advTurn_E22 :
    after (exec .advTurn (stand 40 1#1)) =
      some { stand 40 1#1 with clk := ⟨45, 0#1⟩, phase := .halted, hcause := .traceExhausted } := by decide
/-- E20 as the format TURN. -/
theorem test_turn_E20 : after (exec .turn (stand 15 0#1)) = some (stand 25 0#1) := by decide

/-! Steps: window, matcher, parity (vectors W1 to W9, M1 to M2f, Y1 to Y8). -/

theorem test_winPush_W1 :
    after (exec (.winPush 1#1 110)
        { stand 0 0#1 with win := 0x54#32, wcnt := 10, trk := ⟨100, 90, 80, 70, 60, 50, 40, 30⟩ }) =
      some { stand 0 0#1 with win := 0xA9#32, wcnt := 11, trk := ⟨110, 100, 90, 80, 70, 60, 50, 40⟩ } := by decide
/-- W2: bit 31 dropped, the count saturates. -/
theorem test_winPush_W2 :
    (after (exec (.winPush 1#1 7) { stand 0 0#1 with win := 0x80000001#32, wcnt := 32 })).map
      (fun s => (s.win, s.wcnt)) = some (0x00000003#32, 32) := by decide
theorem test_winClear_W5 :
    after (exec .winClear { stand 0 0#1 with win := 0xA9#32, wcnt := 11, trk := ⟨8, 7, 6, 5, 4, 3, 2, 1⟩ }) =
      some (stand 0 0#1) := by decide
/-- The last shifts of W7 and W9. -/
theorem test_subShift_W7 :
    (after (exec (.subShift .ackw 1#1) { stand 0 0#1 with ackw := 0b110#3 })).map State.ackw = some 0b101#3 := by decide
theorem test_subShift_W9 :
    (after (exec (.subShift .datw 1#1) { stand 0 0#1 with datw := 0x0DEADBEEF#33 })).map State.datw =
      some 0x1BD5B7DDF#33 := by decide
theorem test_matchReset_M1b :
    (after (exec .matchReset { stand 0 0#1 with win := 0x0A00#32, wcnt := 12 })).map State.ret = some (.truth true) := by
  decide
theorem test_matchReset_M1a :
    (after (exec .matchReset { stand 0 0#1 with win := 0#32, wcnt := 7 })).map State.ret = some (.truth false) := by decide
theorem test_matchRequest_M2 :
    (after (exec .matchRequest { stand 0 0#1 with win := 0xA9#32, wcnt := 8 })).map State.ret = some (.truth true) := by
  decide
theorem test_matchRequest_M2c :
    (after (exec .matchRequest { stand 0 0#1 with win := 0x83#32, wcnt := 9 })).map State.ret = some (.truth false) := by
  decide
theorem test_parity_Y3 :
    (after (exec (.parity 0x100000000 32 0) (stand 0 0#1))).map State.ret = some (.bit 1#1) := by decide
theorem test_parity_AD :
    (after (exec (.parity 0xAD 6 2) (stand 0 0#1))).map State.ret = some (.bit 1#1) ∧
    (after (exec (.parity 0xA9 6 2) (stand 0 0#1))).map State.ret = some (.bit 0#1) := by decide
/-- A span with hi < lo: the operation completes with a free value (log 5). -/
theorem test_parity_emptySpan :
    exec (.parity 0xA9 2 6) (stand 0 0#1) =
      .next { stand 0 0#1 with ret := .bit (Config.emptySpanParity 0xA9 2 6) } := by rfl

/-! Steps: records and sinks (vector S8). -/

theorem test_emitFrame_S8 :
    after (exec (.emitFrame .ack 1#64 105 130) (stand 0 0#1)) =
      some { stand 0 0#1 with frames := [⟨.ack, 1#64, 105, 130, 0#8⟩], progress := some 130 } := by decide
theorem test_frame_record :
    after (exec (.frame ⟨.ack, 1#64, 105, 130, 0#8⟩) (stand 0 0#1)) =
      some { stand 0 0#1 with frames := [⟨.ack, 1#64, 105, 130, 0#8⟩] } := by decide
theorem test_mark_record :
    after (exec (.mark ⟨60, .parityError, .dio⟩) (stand 0 0#1)) =
      some { stand 0 0#1 with marks := [⟨60, .parityError, .dio⟩] } := by decide
theorem test_prog_record : after (exec (.prog 130) (stand 0 0#1)) = some { stand 0 0#1 with progress := some 130 } := by
  decide
/-- The example of R175: ADV_MASTER reaching 40 appends this. -/
theorem test_markOp :
    after (exec (.markOp 40 .masterSample .clk) (stand 0 0#1)) =
      some { stand 0 0#1 with marks := [⟨40, .masterSample, .clk⟩] } := by decide
theorem test_reportProgress :
    after (exec (.reportProgress 85) (stand 0 0#1)) = some { stand 0 0#1 with progress := some 85 } := by decide

/-! Steps: scan, Reset, Request (vectors S1 to S7). -/

/-- The first step of S1 and of P8 (a): a transition at the sampling edge is in effect. -/
theorem test_scan_P8 :
    (after (exec .scan (State.created (std 1 0) ⟨0#1, [10]⟩))).map
      (fun s => (s.clk, s.dio, s.win, s.wcnt, s.trk.t0, s.phase)) = some (⟨10, 1#1⟩, ⟨10, 1#1⟩, 1#32, 1, 10, .scan) := by
  decide
/-- The eighth step of S4: the Park bit at 80 makes the byte 0xA9. -/
theorem test_scan_S4 :
    (after (exec .scan { matched 9 0 dataA9 0x54#8 with
        clk := ⟨70, 1#1⟩, dio := ⟨70, 0#1⟩, wcnt := 7, trk := ⟨70, 60, 50, 40, 30, 20, 10, 0⟩, phase := .scan })).map
      (fun s => (lowByte s, s.wcnt, s.trk.t7, s.phase)) = some (0xA9#8, 8, 10, .reqClose) := by decide
/-- H6: the stop request wins over the end of the trace. -/
theorem test_scan_H6 :
    after (exec .scan { stand 45 0#1 with stopreq := true }) =
      some { stand 45 0#1 with stopreq := true, phase := .halted, hcause := .stopped } := by decide
/-- S2. -/
theorem test_resetClose_S2 :
    (after (exec .resetClose { matched 9 0 ⟨0#1, []⟩ 0x00#8 with phase := .resetClose, dio := ⟨80, 0#1⟩ })).map
      (fun s => (s.dio.pos, s.frames, s.progress, s.wcnt, s.phase)) =
      some (85, [⟨.reset, 0#64, 10, 85, 0#8⟩], some 85, 0, .scan) := by decide
/-- The pattern RESET on the same state. -/
theorem test_reset_pattern :
    (after (exec .reset (matched 9 0 ⟨0#1, []⟩ 0x00#8))).map (fun s => (s.frames, s.phase)) =
      some ([⟨.reset, 0#64, 10, 85, 0#8⟩], .scan) := by decide
/-- S4: no ParityError marker. -/
theorem test_reqClose_S4 :
    (after (exec .reqClose (matched 9 0 dataA9 0xA9#8))).map
      (fun s => (s.marks.length, s.frames, s.tt, s.phase, s.wcnt)) =
      some (8, [⟨.request, 0xA9#64, 10, 85, 0#8⟩], .read, .turn1, 8) := by decide
/-- S5: one ParityError marker at 60. -/
theorem test_reqClose_S5 :
    (after (exec .reqClose (matched 9 0 dataA9 0xAD#8))).map
      (fun s => (s.marks.getLast?, s.frames)) =
      some (some ⟨60, .parityError, .dio⟩, [⟨.request, 0xAD#64, 10, 85, 0#8⟩]) := by decide
/-- S7: no closing edge, no frame. -/
theorem test_reqClose_S7 :
    after (exec .reqClose (matched 8 1 dataA9 0xA9#8)) =
      some { matched 8 1 dataA9 0xA9#8 with phase := .halted, hcause := .traceExhausted } := by decide
theorem test_requestR_pattern :
    (after (exec (.requestR 0#1 0#1 1#1 0#1) (matched 9 0 dataA9 0xA9#8))).map (fun s => (s.frames, s.tt)) =
      some ([⟨.request, 0xA9#64, 10, 85, 0#8⟩], .read) := by decide
theorem test_requestW_pattern :
    (after (exec (.requestW 0#1 1#1 0#1 1#1) (matched 9 0 data95 0x95#8))).map (fun s => (s.frames, s.tt)) =
      some ([⟨.request, 0x95#64, 10, 85, 0#8⟩], .write) := by decide
theorem test_noframe_pattern : after (exec (.noframe 0xFE#8) (stand 10 1#1)) = some (stand 10 1#1) := by decide

/-! Steps: the transaction (vectors X1 to X9, here on the first cycles of the trace). -/

theorem test_turn1 :
    after (exec .turn1 { standIn .turn1 15 0#1 with ackw := 5#3, bitcnt := 33 }) = some (standIn .ack 25 0#1) := by decide
/-- H2's second bit: ACKW 0b01 becomes 0b010 at a low data line. -/
theorem test_ack :
    (after (exec .ack { standIn .ack 15 0#1 with ackw := 1#3, bitcnt := 1, substart := 15 })).map
      (fun s => (s.clk, s.ackw, s.bitcnt, s.substart, s.phase)) = some (⟨25, 0#1⟩, 2#3, 2, 15, .ack) := by decide
theorem test_ack_third :
    (after (exec .ack { standIn .ack 15 0#1 with bitcnt := 2 })).map (fun s => s.phase) = some .ackClose := by decide
theorem test_ackClose_X3 :
    (after (exec .ackClose { standIn .ackClose 25 0#1 with ackw := 2#3, bitcnt := 3, substart := 5, datw := 7#33 })).map
      (fun s => (s.clk, s.frames, s.datw, s.bitcnt, s.phase)) =
      some (⟨30, 1#1⟩, [⟨.ack, 2#64, 5, 30, 0#8⟩], 0#33, 0, .turn2) := by decide
theorem test_ackClose_read :
    (after (exec .ackClose { standIn .ackClose 25 0#1 with tt := .read })).map State.phase = some .data := by decide
theorem test_ack_formats :
    (after (exec .ackOk (standIn .ackClose 25 0#1))).map State.frames = some [⟨.ack, 1#64, 0, 30, 0#8⟩] ∧
    (after (exec .ackWait (standIn .ackClose 25 0#1))).map State.frames = some [⟨.ack, 2#64, 0, 30, 0#8⟩] ∧
    (after (exec .ackFault (standIn .ackClose 25 0#1))).map State.frames = some [⟨.ack, 4#64, 0, 30, 0#8⟩] ∧
    (after (exec (.ackOther 5#3) (standIn .ackClose 25 0#1))).map State.frames = some [⟨.ack, 5#64, 0, 30, 0#8⟩] := by
  decide
theorem test_turn2_X4 : after (exec .turn2 (standIn .turn2 20 1#1)) = some (standIn .data 30 1#1) := by decide
/-- X5: a Write's first DATA step entered high passes one falling edge and samples at the next rising edge. -/
theorem test_data_write_X5 :
    (after (exec .data (standIn .data 20 1#1))).map (fun s => (s.clk, s.substart, s.parpos, s.bitcnt, s.marks)) =
      some (⟨30, 1#1⟩, 30, 30, 1, [⟨30, .masterSample, .clk⟩]) := by decide
/-- X7: a Read's first DATA step entered high passes a whole cycle and samples at the falling edge after it. -/
theorem test_data_read_X7 :
    (after (exec .data { standIn .data 10 1#1 with tt := .read })).map
      (fun s => (s.clk, s.substart, s.parpos, s.bitcnt, s.marks)) =
      some (⟨25, 0#1⟩, 25, 25, 1, [⟨25, .slaveSample, .clk⟩]) := by decide
theorem test_data_last :
    (after (exec .data { standIn .data 20 1#1 with bitcnt := 32 })).map (fun s => (s.bitcnt, s.phase)) =
      some (33, .dataClose) := by decide
/-- X6 and P3: no ParityError for 0x2468ACF1. -/
theorem test_dataClose_write_X6 :
    (after (exec .dataClose { standIn .dataClose 20 1#1 with datw := 0x2468ACF1#33, wcnt := 8, substart := 10 })).map
      (fun s => (s.frames, s.marks, s.wcnt, s.phase)) = some ([⟨.write, 0x2468ACF1#64, 10, 25, 0#8⟩], [], 0, .scan) := by decide
/-- X8 and P2b: one ParityError at PARPOS for 0x1BD5B7DDF. -/
theorem test_dataClose_read_P2b :
    (after (exec .dataClose
        { standIn .dataClose 15 0#1 with tt := .read, datw := 0x1BD5B7DDF#33, wcnt := 8, parpos := 15 })).map
      (fun s => (s.frames, s.marks, s.wcnt, s.phase)) =
      some ([⟨.read, 0x1BD5B7DDF#64, 0, 20, 0#8⟩], [⟨15, .parityError, .dio⟩], 8, .turn3) := by decide
theorem test_data_formats :
    (after (exec (.dataR 0xDEADBEEF#32 0#1) (standIn .dataClose 15 0#1))).map (fun s => (s.frames, s.marks)) =
      some ([⟨.read, 0x1BD5B7DDE#64, 0, 20, 0#8⟩], []) ∧
    (after (exec (.dataW 0x12345678#32 0#1) (standIn .dataClose 15 0#1))).map (fun s => (s.frames, s.marks)) =
      some ([⟨.write, 0x2468ACF0#64, 0, 20, 0#8⟩], [⟨0, .parityError, .dio⟩]) := by decide
theorem test_turn3_X9 :
    after (exec .turn3 { standIn .turn3 20 1#1 with win := 0xA9#32, wcnt := 8 }) = some (standIn .scan 30 1#1) := by decide

/-! Steps: STEP and the big-step forms, halting, reset. -/

theorem test_step_runs_turn1 : after (exec .step (standIn .turn1 15 0#1)) = some (standIn .ack 25 0#1) := by decide
/-- DISPATCH on a clock that ends in its acknowledge (as P4): the third ACK sample has no edge. -/
theorem test_dispatch_exhausted :
    (after (exec .dispatch (stand 15 0#1))).map (fun s => (s.clk.pos, s.dio.pos, s.phase, s.hcause, s.frames)) =
      some (45, 45, .halted, .traceExhausted, []) := by decide
/-- DECODE on P8 (a). -/
theorem test_decode_P8 :
    (after (exec .decode (State.created (std 1 0) ⟨0#1, [10]⟩))).map
      (fun s => (s.clk.pos, s.dio.pos, s.win, s.marks, s.hcause)) =
      some (15, 10, 1#32, [⟨10, .masterSample, .clk⟩], .traceExhausted) := by decide
/-- P9's sixth step: the host makes its move after the step that reached 50, and the SCAN step there honours it. -/
theorem test_scheduled_stop_P9 :
    after (step (({ State.created (std 20 0) ⟨0#1, []⟩ with clk := ⟨50, 1#1⟩, dio := ⟨50, 0#1⟩ }).scheduleStop (some 50))) =
      some ((({ State.created (std 20 0) ⟨0#1, []⟩ with
          clk := ⟨50, 1#1⟩, dio := ⟨50, 0#1⟩, stopreq := true, phase := .halted, hcause := .stopped }).scheduleStop (some 50))) := by
  decide
/-- R229 inside DECODE: the host makes its move after the first sample, and the next pass honours it. -/
theorem test_decode_stopped_later :
    (after (exec .decode ((State.created (std 3 0) ⟨0#1, []⟩).scheduleStop (some 10)))).map
      (fun s => (s.clk.pos, s.dio.pos, s.wcnt, s.stopreq, s.hcause)) = some (10, 10, 1, true, .stopped) := by decide
/-- H5: a moment inside a transaction waits for its end; TURN1 runs as without. -/
theorem test_scheduled_stop_waits :
    (after (step ((standIn .turn1 15 0#1).scheduleStop (some 15)))).map (fun s => (s.phase, s.stopreq, s.clk.pos)) =
      some (.ack, true, 25) := by decide
theorem test_halted_runs_nothing :
    step (standIn .halted 15 0#1) = .fault .halted ∧ exec .winClear (standIn .halted 15 0#1) = .fault .halted := ⟨rfl, rfl⟩
theorem test_reset_is_created : State.reset = State.created ⟨0#1, []⟩ ⟨0#1, []⟩ := by decide
/-- R44, R252: the cached levels at creation are the traces' initial levels. -/
theorem test_created_high :
    (State.created ⟨1#1, [4, 10]⟩ ⟨1#1, [8]⟩).clk = ⟨0, 1#1⟩ ∧ (State.created ⟨1#1, [4, 10]⟩ ⟨1#1, [8]⟩).dio = ⟨0, 1#1⟩ := by
  decide
theorem test_withFetchWord_request :
    after (step (State.reset.withFetchWord 8 0xA9)) =
      after (exec (.requestR 0#1 0#1 1#1 0#1) (State.reset.withFetchWord 8 0xA9)) := by decide
theorem test_withFetchWord_ack :
    after (step (State.reset.withFetchWord 8 2)) = after (exec .ackWait (State.reset.withFetchWord 8 2)) := by decide
theorem test_withFetchWord_data :
    after (step (State.reset.withFetchWord 40 0x2468ACF1)) =
      after (exec (.dataW 0x12345678#32 1#1) (State.reset.withFetchWord 40 0x2468ACF1)) := by decide
theorem test_withFetchWord_reset :
    after (step (State.reset.withFetchWord 8 0)) = after (exec .reset (State.reset.withFetchWord 8 0)) := by decide
/-- The placed byte 0xFE is sampled by SCAN and matches nothing. -/
theorem test_withFetchWord_noframe :
    (after (step (State.reset.withFetchWord 8 0xFE))).map (fun s => (lowByte s, s.phase, s.frames)) =
      some (0xFE#8, .scan, []) := by decide

/-! Witnesses: for every statement with hypotheses, states and operands that meet all hypotheses of a clause together, one
for each clause. -/

/-- A clock with an odd number of transitions, so that a low level can have exactly one ahead. -/
def oddStand (ph : Phase) (p : Nat) (l : Bit) : State :=
  { State.created (std 4 1) dio2 with clk := ⟨p, l⟩, dio := ⟨p, dio2.level p⟩, phase := ph }

theorem witness_LevelTogglesExactlyAtTransitions :
    (std 2 0).wf ∧ (std 2 0).nextEdge 10 = some 15 ∧ (10 ≤ 14 ∧ 14 < 15) ∧ (std 2 0).nextEdge 25 = none ∧ 25 ≤ 25 := by decide
theorem witness_NextEdgeMovesOrExhausts :
    ((stand 0 0#1).Running ∧ (stand 0 0#1).mem.clkt.nextEdge 0 = some 10) ∧
    ((stand 45 0#1).Running ∧ (stand 45 0#1).mem.clkt.nextEdge 45 = none) := by decide
theorem witness_GotoAbsMovesForwardOrIsRefused :
    (stand 10 1#1).Running ∧ (stand 10 1#1).dio.pos ≤ 10 ∧ 9 < (stand 10 1#1).dio.pos := by decide
theorem witness_LevelReturnsTheCursorsLevel : (stand 10 1#1).Running ∧ Coherent (stand 10 1#1) :=
  ⟨by decide, by decide, by decide, by decide⟩
theorem witness_AdvMasterLandsOnRisingEdge :
    ((stand 0 0#1).Running ∧ (stand 0 0#1).clk.lvl = 0#1 ∧ (stand 0 0#1).mem.clkt.nextEdge 0 = some 10 ∧
      (stand 0 0#1).dio.pos ≤ 10) ∧
    ((stand 10 1#1).Running ∧ (stand 10 1#1).clk.lvl = 1#1 ∧ (stand 10 1#1).mem.clkt.nextEdge 10 = some 15 ∧
      (stand 10 1#1).mem.clkt.nextEdge 15 = some 20 ∧ (stand 10 1#1).dio.pos ≤ 20) ∧
    ((stand 45 0#1).Running ∧ (stand 45 0#1).mem.clkt.nextEdge 45 = none) ∧
    ((stand 40 1#1).Running ∧ (stand 40 1#1).clk.lvl = 1#1 ∧ (stand 40 1#1).mem.clkt.nextEdge 40 = some 45 ∧
      (stand 40 1#1).mem.clkt.nextEdge 45 = none) := by decide
theorem witness_AdvSlaveLandsOnFallingEdge :
    ((stand 15 0#1).Running ∧ (stand 15 0#1).clk.lvl = 0#1 ∧ (stand 15 0#1).mem.clkt.nextEdge 15 = some 20 ∧
      (stand 15 0#1).mem.clkt.nextEdge 20 = some 25 ∧ (stand 15 0#1).dio.pos ≤ 25) ∧
    ((stand 20 1#1).clk.lvl = 1#1 ∧ (stand 20 1#1).mem.clkt.nextEdge 20 = some 25 ∧
      (stand 20 1#1).mem.clkt.nextEdge 25 = some 30 ∧ (stand 20 1#1).mem.clkt.nextEdge 30 = some 35 ∧
      (stand 20 1#1).dio.pos ≤ 35) ∧
    (stand 45 0#1).mem.clkt.nextEdge 45 = none ∧
    ((oddStand .scan 35 0#1).clk.lvl = 0#1 ∧ (oddStand .scan 35 0#1).mem.clkt.nextEdge 35 = some 40 ∧
      (oddStand .scan 35 0#1).mem.clkt.nextEdge 40 = none) ∧
    ((stand 40 1#1).clk.lvl = 1#1 ∧ (stand 40 1#1).mem.clkt.nextEdge 40 = some 45 ∧
      (stand 40 1#1).mem.clkt.nextEdge 45 = none) ∧
    ((oddStand .scan 30 1#1).clk.lvl = 1#1 ∧ (oddStand .scan 30 1#1).mem.clkt.nextEdge 30 = some 35 ∧
      (oddStand .scan 30 1#1).mem.clkt.nextEdge 35 = some 40 ∧ (oddStand .scan 30 1#1).mem.clkt.nextEdge 40 = none) := by
  decide
theorem witness_AdvEdgeMovesOneTransition :
    ((stand 10 1#1).Running ∧ (stand 10 1#1).mem.clkt.nextEdge 10 = some 15 ∧ (stand 10 1#1).dio.pos ≤ 15) ∧
    ((stand 45 0#1).Running ∧ (stand 45 0#1).mem.clkt.nextEdge 45 = none) := by decide
theorem witness_AdvTurnMovesTwoTransitions :
    ((stand 30 1#1).Running ∧ (stand 30 1#1).mem.clkt.nextEdge 30 = some 35 ∧
      (stand 30 1#1).mem.clkt.nextEdge 35 = some 40 ∧ (stand 30 1#1).dio.pos ≤ 40) ∧
    ((stand 45 0#1).Running ∧ (stand 45 0#1).mem.clkt.nextEdge 45 = none) ∧
    ((stand 40 1#1).Running ∧ (stand 40 1#1).mem.clkt.nextEdge 40 = some 45 ∧
      (stand 40 1#1).mem.clkt.nextEdge 45 = none) := by decide
theorem witness_SlaveReadingsAgreeWhenEnteredLow :
    (stand 15 0#1).clk.lvl = 0#1 ∧
    ((stand 20 1#1).clk.lvl = 1#1 ∧ (stand 20 1#1).mem.clkt.nextEdge 20 = some 25 ∧ (stand 20 1#1).dio.pos ≤ 25) := by decide
/-- The statements whose only hypothesis is that the decoder runs: WinPushShiftsWindowAndTracker,
WinClearAndSubShiftWriteTheirWindow, MatchPredicatesTestTheLowByte, RecordsReachTheirSink, EmitFrameReportsItsEnd,
UnmatchedByteProducesNothing. -/
theorem witness_Running : (stand 10 1#1).Running := by decide
theorem witness_EightPushesFillByteAndTracker :
    [((1 : Bit), 10), (0, 20), (1, 30), (0, 40), (1, 50), (0, 60), (0, 70), (1, 80)].length = 8 := by decide
theorem witness_FieldIsAssembledFirstBitHighest :
    [(1 : Bit), 0, 1].length = 3 ∧ 0 < [(1 : Bit), 0, 1].length ∧ 2 < [(1 : Bit), 0, 1].length := by decide
theorem witness_MatcherAgreesWithDecoder : 8 ≤ (matched 9 0 dataA9 0xA9#8).wcnt := by decide
theorem witness_ParityCountsSetBits : (stand 0 0#1).Running ∧ 2 ≤ 6 ∧ 6 ≤ 6 ∧ 5 < 6 := by decide
theorem witness_ScanSamplesPushesAndChooses :
    ((stand 0 0#1).requestStop.Running ∧ (stand 0 0#1).requestStop.stopreq = true) ∧
    ((stand 0 0#1).Running ∧ (stand 0 0#1).stopreq = false ∧ (stand 0 0#1).clk.lvl = 0#1 ∧
      (stand 0 0#1).mem.clkt.nextEdge 0 = some 10 ∧ (stand 0 0#1).dio.pos ≤ 10) ∧
    ((stand 10 1#1).stopreq = false ∧ (stand 10 1#1).clk.lvl = 1#1 ∧ (stand 10 1#1).mem.clkt.nextEdge 10 = some 15 ∧
      (stand 10 1#1).mem.clkt.nextEdge 15 = some 20 ∧ (stand 10 1#1).dio.pos ≤ 20) ∧
    ((stand 45 0#1).stopreq = false ∧ (stand 45 0#1).mem.clkt.nextEdge 45 = none) ∧
    ((stand 40 1#1).stopreq = false ∧ (stand 40 1#1).clk.lvl = 1#1 ∧ (stand 40 1#1).mem.clkt.nextEdge 40 = some 45 ∧
      (stand 40 1#1).mem.clkt.nextEdge 45 = none) := by decide
/-- The statements whose clauses ask for one further transition or for none: ResetCloseEmitsResetFrame,
RequestCloseEmitsRequestFrame, RequestParityIsReportedOnly, AckCloseEmitsAckFrameWhateverTheValue. -/
theorem witness_ClosingEdge :
    ((matched 9 0 dataA9 0xA9#8).Running ∧ (matched 9 0 dataA9 0xA9#8).mem.clkt.nextEdge 80 = some 85 ∧
      (matched 9 0 dataA9 0xA9#8).dio.pos ≤ 85) ∧
    ((matched 8 1 dataA9 0xA9#8).Running ∧ (matched 8 1 dataA9 0xA9#8).mem.clkt.nextEdge 80 = none) := by decide
/-- Both parities of a Request byte occur. -/
theorem witness_RequestParityIsReportedOnly :
    (bitAt (0xAD#8) 6 ^^^ bitAt (0xAD#8) 5 ^^^ bitAt (0xAD#8) 4 ^^^ bitAt (0xAD#8) 3 ^^^ bitAt (0xAD#8) 2 = 1#1) ∧
    (bitAt (0xA9#8) 6 ^^^ bitAt (0xA9#8) 5 ^^^ bitAt (0xA9#8) 4 ^^^ bitAt (0xA9#8) 3 ^^^ bitAt (0xA9#8) 2 = 0#1) ∧
    lowByte (matched 9 0 dataA9 0xAD#8) = 0xAD#8 ∧ lowByte (matched 9 0 dataA9 0xA9#8) = 0xA9#8 := by decide
theorem witness_TurnaroundStepsAdvanceThePhase :
    ((standIn .turn1 15 0#1).Running ∧ (standIn .turn1 15 0#1).mem.clkt.nextEdge 15 = some 20 ∧
      (standIn .turn1 15 0#1).mem.clkt.nextEdge 20 = some 25 ∧ (standIn .turn1 15 0#1).dio.pos ≤ 25) ∧
    ((standIn .turn2 45 0#1).Running ∧ (standIn .turn2 45 0#1).mem.clkt.nextEdge 45 = none) ∧
    ((standIn .turn3 40 1#1).Running ∧ (standIn .turn3 40 1#1).mem.clkt.nextEdge 40 = some 45 ∧
      (standIn .turn3 40 1#1).mem.clkt.nextEdge 45 = none) := by decide
theorem witness_AckStepShiftsOneSlaveSample :
    ((standIn .ack 15 0#1).Running ∧ (standIn .ack 15 0#1).clk.lvl = 0#1 ∧
      (standIn .ack 15 0#1).mem.clkt.nextEdge 15 = some 20 ∧ (standIn .ack 15 0#1).mem.clkt.nextEdge 20 = some 25 ∧
      (standIn .ack 15 0#1).dio.pos ≤ 25) ∧
    ((standIn .ack 20 1#1).clk.lvl = 1#1 ∧ (standIn .ack 20 1#1).mem.clkt.nextEdge 20 = some 25 ∧
      (standIn .ack 20 1#1).mem.clkt.nextEdge 25 = some 30 ∧ (standIn .ack 20 1#1).mem.clkt.nextEdge 30 = some 35 ∧
      (standIn .ack 20 1#1).dio.pos ≤ 35) ∧
    (standIn .ack 45 0#1).mem.clkt.nextEdge 45 = none ∧
    ((oddStand .ack 35 0#1).Running ∧ (oddStand .ack 35 0#1).clk.lvl = 0#1 ∧
      (oddStand .ack 35 0#1).mem.clkt.nextEdge 35 = some 40 ∧ (oddStand .ack 35 0#1).mem.clkt.nextEdge 40 = none) ∧
    ((standIn .ack 40 1#1).clk.lvl = 1#1 ∧ (standIn .ack 40 1#1).mem.clkt.nextEdge 40 = some 45 ∧
      (standIn .ack 40 1#1).mem.clkt.nextEdge 45 = none) ∧
    ((oddStand .ack 30 1#1).clk.lvl = 1#1 ∧ (oddStand .ack 30 1#1).mem.clkt.nextEdge 30 = some 35 ∧
      (oddStand .ack 30 1#1).mem.clkt.nextEdge 35 = some 40 ∧ (oddStand .ack 30 1#1).mem.clkt.nextEdge 40 = none) := by
  decide
theorem witness_DataStepSamplesOnTheDrivingSide :
    ({ standIn .data 15 0#1 with tt := .read }.Running ∧ { standIn .data 15 0#1 with tt := .read }.tt = .read ∧
      (standIn .data 15 0#1).clk.lvl = 0#1 ∧ (standIn .data 15 0#1).mem.clkt.nextEdge 15 = some 20 ∧
      (standIn .data 15 0#1).mem.clkt.nextEdge 20 = some 25 ∧ (standIn .data 15 0#1).dio.pos ≤ 25) ∧
    ((standIn .data 10 1#1).clk.lvl = 1#1 ∧ (standIn .data 10 1#1).mem.clkt.nextEdge 10 = some 15 ∧
      (standIn .data 10 1#1).mem.clkt.nextEdge 15 = some 20 ∧ (standIn .data 10 1#1).mem.clkt.nextEdge 20 = some 25 ∧
      (standIn .data 10 1#1).dio.pos ≤ 25) ∧
    ((standIn .data 15 0#1).tt = .write ∧ (standIn .data 15 0#1).dio.pos ≤ 20) ∧
    ((standIn .data 10 1#1).tt = .write ∧ (standIn .data 10 1#1).dio.pos ≤ 20) ∧
    (standIn .data 45 0#1).mem.clkt.nextEdge 45 = none := by decide
/-- DataCloseEmitsReadOrWriteFrame and DataParityIsReportedOnly: both directions and both parities. -/
theorem witness_DataClose :
    ((standIn .dataClose 15 0#1).Running ∧ (standIn .dataClose 15 0#1).mem.clkt.nextEdge 15 = some 20 ∧
      (standIn .dataClose 15 0#1).dio.pos ≤ 20 ∧ (standIn .dataClose 15 0#1).tt = .write) ∧
    { standIn .dataClose 15 0#1 with tt := .read }.tt = .read ∧
    ((standIn .dataClose 45 0#1).Running ∧ (standIn .dataClose 45 0#1).mem.clkt.nextEdge 45 = none) ∧
    setBits (0x100000000#33).toNat 32 0 % 2 = 1 ∧ setBits (0x100000001#33).toNat 32 0 % 2 = 0 := by decide
theorem witness_StepRunsTheDecodedOperation :
    decode (.phase (standIn .dataClose 15 0#1).phase.code) = .ok .dataClose ∧
    (standIn .halted 15 0#1).phase = .halted := ⟨rfl, rfl⟩
theorem witness_StepOperationCompletesInEveryPhase :
    (standIn .data 10 1#1).Running ∧ (standIn .data 10 1#1).dio.pos ≤ (standIn .data 10 1#1).clk.pos := by decide
theorem witness_NothingRunsWhenHalted : (standIn .halted 15 0#1).phase = .halted := by decide
/-- Both causes of a halt. -/
theorem witness_HaltingIsPreciseAndHasTwoCauses :
    (∃ t, step (stand 0 0#1).requestStop = .next t ∧ t.phase = .halted) ∧
    (∃ t, step (stand 40 1#1) = .next t ∧ t.phase = .halted) := ⟨⟨_, rfl, rfl⟩, ⟨_, rfl, rfl⟩⟩
theorem witness_StopRequestWaitsForScan :
    (standIn .turn1 15 0#1).phase ≠ .scan ∧ ∃ t, step (standIn .turn1 15 0#1) = .next t := ⟨by decide, ⟨_, rfl⟩⟩
/-- NoOperationChangesATrace and CursorsAdvanceAndSinksOnlyGrow: an operation that moves both cursors and appends a marker. -/
theorem witness_OperationAnswers : ∃ t, exec .advSlave (stand 20 1#1) = .next t := ⟨_, rfl⟩
theorem witness_HighWindowBitsAreUnobservable :
    (0xFFFFFF54#32).extractLsb' 0 8 = { stand 10 1#1 with win := 0x54#32 }.win.extractLsb' 0 8 ∧
    ∃ t, step { stand 10 1#1 with win := 0x54#32 } = .next t := ⟨by decide, ⟨_, rfl⟩⟩

/-- The clock of a transaction, whatever its length, is in canonical form. -/
theorem std_wf (n cut : Nat) : (std n cut).wf := by
  refine ⟨List.pairwise_map.mpr (List.pairwise_lt_range.imp fun h => by omega), ?_⟩
  intro e he
  obtain ⟨k, _, rfl⟩ := List.mem_map.mp he
  simp [Config.startSample]

/-- A state between reset and the first sample meets every invariant. -/
theorem inv_stand : Inv (stand 0 0#1) where
  coherent := ⟨by decide, by decide, by decide⟩
  lockstep := ⟨by decide, by decide⟩
  cause := by decide
  window := ⟨by decide, by decide⟩
  control := by constructor <;> decide
  frames := ⟨by decide, by decide, by decide, by decide, fun _ i hi => absurd hi (Nat.not_lt_zero _),
    fun _ hb => absurd hb (Nat.not_lt_zero _)⟩
  marks := ⟨by decide, by decide, by decide⟩

/-- Every StepKeeps statement: the invariants hold and the step has a next state. -/
theorem witness_StepKeeps : Inv (stand 0 0#1) ∧ ∃ t, step (stand 0 0#1) = .next t := ⟨inv_stand, ⟨_, rfl⟩⟩
/-- The first clause of StepKeepsLockstep, for each of the four composites. -/
theorem witness_StepKeepsLockstep :
    (∃ t, exec .advMaster (stand 10 1#1) = .next t ∧ t.Running) ∧ (∃ t, exec .advSlave (stand 10 1#1) = .next t ∧ t.Running) ∧
    (∃ t, exec .advEdge (stand 10 1#1) = .next t ∧ t.Running) ∧ (∃ t, exec .advTurn (stand 10 1#1) = .next t ∧ t.Running) :=
  ⟨⟨_, rfl, by decide⟩, ⟨_, rfl, by decide⟩, ⟨_, rfl, by decide⟩, ⟨_, rfl, by decide⟩⟩
theorem witness_CreationMeetsTheInvariants : (std 4 0).wf ∧ dio2.wf ∧ Inv (stand 0 0#1) := ⟨by decide, by decide, inv_stand⟩
theorem witness_HostMayStopAtAnyMoment :
    (stand 0 0#1).stopAt = none ∧ ∃ u v, Sys2Proof.core.run 1 (stand 0 0#1) = .next u ∧ u.Running ∧
      Sys2Proof.core.run 1 u.requestStop = .next v := ⟨rfl, _, _, rfl, by decide, rfl⟩
/-- EveryStepCompletesAndConsumesTheClock, EveryRunHalts and RunsEndByStopOrTraceEnd. -/
theorem witness_Lockstep : Lockstep (stand 0 0#1) ∧ (stand 0 0#1).Running := ⟨inv_stand.lockstep, by decide⟩
theorem witness_DecodeEndsHalted :
    ((stand 0 0#1).Running ∧ (stand 0 0#1).dio.pos ≤ (stand 0 0#1).clk.pos ∧ (stand 0 0#1).hostMoved.stopreq = false ∧
      (stand 0 0#1).stopAt = none) ∧
    ((stand 0 0#1).scheduleStop (some 0)).Running ∧ ((stand 0 0#1).scheduleStop (some 0)).hostMoved.stopreq = true ∧
    ((stand 0 0#1).scheduleStop (some 10)).hostMoved.stopreq = false := by decide
theorem witness_DecodeEqualsIteratedSteps : Inv (stand 0 0#1) ∧ (stand 0 0#1).phase = .scan := ⟨inv_stand, by decide⟩

/-- A matched Request byte at R_8 meets every invariant, on a clock of any length that reaches R_8. -/
theorem inv_matched {n cut : Nat} {data : Trace} {b : Byte} (hb : b &&& 0x83#8 = 0x81#8) (hd : data.wf)
    (hl : (std n cut).level 80 = 1#1) (h80 : data.level 80 = 1#1)
    (hw : ∀ i : Fin 8, bitAt (b.setWidth 32) i = data.level ((⟨80, 70, 60, 50, 40, 30, 20, 10⟩ : Tracker).entry i)) :
    Inv (matched n cut data b) where
  coherent := ⟨⟨std_wf n cut, hd⟩, hl.symm, h80.symm⟩
  lockstep := ⟨fun _ => rfl, Nat.le_refl _⟩
  cause := by simp [CauseOk, matched, State.created, State.reset]
  window := ⟨by simp [matched], fun i _ => hw i⟩
  control := by
    constructor <;> intro h <;> first | (simp [matched, inTransaction] at h; done) | skip
    have hlow : ∀ x : Byte, (x.setWidth 32).extractLsb' 0 8 = x := by decide
    exact ⟨by simp [matched], by simpa [matched, lowByte, hlow] using hb, rfl⟩
  frames := by
    refine ⟨by simp [matched, State.created, State.reset], by simp [matched, State.created, State.reset],
      by simp [matched, State.created, State.reset], rfl, fun _ i _ => ⟨?_, ?_⟩, ?_⟩
    · simp [endsBefore, matched, State.created, State.reset]
    · revert i
      simp only [matched]
      decide
    · intro h
      simp [matched] at h
  marks := ⟨by simp only [matched]; decide, by simp only [matched]; decide, by simp only [matched]; decide⟩

/-- The transaction clock has exactly 80 transitions after R_8. -/
theorem later_matched80 : 80 ≤ (matched 48 1 dataA9 0xA9#8).later.length := by decide
/-- The transaction clock has exactly 79 transitions after R_8. -/
theorem later_matched79 : 79 ≤ (matched 47 0 data95 0x95#8).later.length := by decide
theorem witness_ReadTransactionLandsAsSpecified :
    Inv (matched 48 1 dataA9 0xA9#8) ∧ (matched 48 1 dataA9 0xA9#8).phase = .reqClose ∧
    bitAt (lowByte (matched 48 1 dataA9 0xA9#8)) 5 = 1#1 ∧ 80 ≤ (matched 48 1 dataA9 0xA9#8).later.length :=
  ⟨inv_matched (by decide) (by decide) (by decide) (by decide) (by decide), rfl, by decide, later_matched80⟩
theorem witness_WriteTransactionLandsAsSpecified :
    Inv (matched 47 0 data95 0x95#8) ∧ (matched 47 0 data95 0x95#8).phase = .reqClose ∧
    bitAt (lowByte (matched 47 0 data95 0x95#8)) 5 = 0#1 ∧ 79 ≤ (matched 47 0 data95 0x95#8).later.length :=
  ⟨inv_matched (by decide) (by decide) (by decide) (by decide) (by decide), rfl, by decide, later_matched79⟩
theorem witness_DispatchEmitsAckAndDataFrame :
    (matched 48 1 dataA9 0xA9#8).Running ∧ (matched 48 1 dataA9 0xA9#8).mem.wf ∧
    (matched 48 1 dataA9 0xA9#8).dio.pos ≤ (matched 48 1 dataA9 0xA9#8).clk.pos ∧
    80 ≤ (matched 48 1 dataA9 0xA9#8).later.length :=
  ⟨by decide, ⟨std_wf 48 1, by decide⟩, by decide, later_matched80⟩
theorem witness_ClosingStepRunsTheAssembledFormat :
    ControlOk (matched 9 0 dataA9 0xA9#8) ∧ pendingWord (matched 9 0 dataA9 0xA9#8) = some (.window 0xA9#8) ∧
    decode (.window 0xA9#8) = .ok (.requestR 0#1 0#1 1#1 0#1) :=
  ⟨(inv_matched (by decide) (by decide) (by decide) (by decide) (by decide)).control, by decide, rfl⟩
theorem witness_DecodeOfEncodeGivesTheOperation :
    (Instr.noframe 0x83#8).wf = true ∧ encode (.noframe 0x83#8) = some (.window 0x83#8) := by decide
theorem witness_EncodeOfDecodeGivesTheWord : decode (.ack 0b101#3) = .ok (.ackOther 5#3) := by rfl

end Sys2Proof.Tests
end

section
/-! The cursors in lockstep (10_state.md R24): what a completed composite and a step leave of the two positions. -/

namespace Sys2Proof.Machine

section
variable {s t : State}

/-- TraceExhausted halts, so an operation that answers a running state ran to its end. -/
theorem runOp_done_of_running {op : State → Ran} (h : runOp op s = .next t) (hr : t.Running) : op s = .done t := by
  obtain ⟨-, hdone | ⟨u, -, rfl⟩⟩ := runOp_eq_next.mp h
  · exact hdone
  · exact absurd rfl hr

/-- Every composite ends with the resync, so one that completes leaves both cursors at one index (40_cursor_ops.md R140). -/
theorem exec_composite_cursors_meet {i : Instr} (hi : i = .advMaster ∨ i = .advSlave ∨ i = .advEdge ∨ i = .advTurn)
    (h : exec i s = .next t) (hr : t.Running) : t.dio.pos = t.clk.pos := by
  rcases hi with rfl | rfl | rfl | rfl
  · rw [exec, execAdvMaster] at h
    obtain ⟨a, ha, hret⟩ := Ran.andThen_eq_done.mp (runOp_done_of_running h hr)
    obtain ⟨e, -, rfl⟩ := advMasterOp_done ha
    cases hret
    rfl
  · rw [exec, execAdvSlave] at h
    obtain ⟨a, ha, hret⟩ := Ran.andThen_eq_done.mp (runOp_done_of_running h hr)
    obtain ⟨e, -, rfl⟩ := advSlaveOp_done ha
    cases hret
    rfl
  · obtain ⟨e, -, rfl⟩ := advEdgeOp_done (runOp_done_of_running h hr)
    rfl
  · obtain ⟨e, -, rfl⟩ := advTurnOp_done (runOp_done_of_running h hr)
    rfl

/-- A step either halts with the data cursor where it was and the clock cursor not moved back, or leaves both cursors at one
index: what follows its composite writes registers and sinks only. -/
theorem StepTo.cursors (h : StepTo s t) :
    (t.phase = .halted ∧ t.dio = s.dio ∧ s.clk.pos ≤ t.clk.pos) ∨ t.dio.pos = t.clk.pos := by
  cases h
  case stopped => exact .inl ⟨rfl, rfl, le_rfl⟩
  case exhausted c _ _ hc => exact .inl ⟨rfl, rfl, hc.path.le⟩
  all_goals
    right
    simp [afterScan, pushSample, winPush_eq, afterAckBit_eq, afterDataBit_eq, closeReset, closeRequest, closeAck, closeData,
      emit_eq, reportParity_eq, winClear_eq]

theorem StepTo.keeps_lockstep (h : StepTo s t) (hs : Lockstep s) : Lockstep t := by
  rcases h.cursors with ⟨hhalt, hdio, hclk⟩ | hmeet
  · exact ⟨fun hr => absurd hhalt hr, hdio ▸ hs.behind.trans hclk⟩
  · exact ⟨fun _ => hmeet, hmeet.le⟩

/-- The host's turn moves no cursor and keeps PHASE. -/
theorem Lockstep.hostMoved (hs : Lockstep s) : Lockstep s.hostMoved :=
  ⟨by simpa using hs.running, by simpa using hs.behind⟩

end

/-- Settles O41: a composite ends with the resync; a step keeps the lockstep by the cases of what one step can do. -/
theorem stepKeepsLockstep : Obligations.StepKeepsLockstep :=
  ⟨fun _ _ _ hi h hr => exec_composite_cursors_meet hi h hr,
    fun _ _ hs h => (step_cases h).keeps_lockstep hs.hostMoved⟩

end Sys2Proof.Machine
end

section
/-! The traces are read-only (20_memory.md R62): what an operation preserves follows from the parts of its pseudocode, and the
traces are preserved by every part. -/

namespace Sys2Proof.Machine

/-! Preservation: a property an operation keeps, whether it runs to its end or raises. -/

section
variable {P : State → Prop} {op k : State → Ran}

/-- The state an operation leaves, at its end or at a raise, satisfies `P`. -/
def Ran.All (P : State → Prop) : Ran → Prop
  | .done t => P t
  | .raised t => P t
  | .refused _ => True

/-- From a state with `P` the operation leaves only states with `P`. -/
def Preserves (P : State → Prop) (op : State → Ran) : Prop :=
  ∀ s, P s → (op s).All P

theorem Ran.All.andThen {r : Ran} (hr : r.All P) (hk : Preserves P k) : (r.andThen k).All P := by
  cases r with
  | done a => exact hk a hr
  | raised a => exact hr
  | refused x => trivial

/-- A property the parts of a sequence preserve is preserved by the sequence. -/
theorem Preserves.andThen (hop : Preserves P op) (hk : Preserves P k) : Preserves P fun s => (op s).andThen k :=
  fun s hs => (hop s hs).andThen hk

/-- Register and sink writes preserve what each of them keeps. -/
theorem preserves_pureOp {f : State → State} (hf : ∀ s, P s → P (f s)) : Preserves P (pureOp f) :=
  hf

theorem preserves_forFrom {body : Nat → State → Ran} (hbody : ∀ k, Preserves P (body k)) (k n : Nat) :
    Preserves P (forFrom body k n) := by
  induction n generalizing k with
  | zero => exact fun _ hs => hs
  | succ n ih => exact (hbody k).andThen (ih (k + 1))

/-- DECODE preserves what its passes, the host's turn before each and the honoured stop preserve. -/
theorem preserves_decodeLoop (hhost : ∀ s, P s → P s.hostMoved) (hstop : ∀ s, P s → P (s.halt .stopped))
    (hpass : Preserves P decodePass) (n : Nat) : Preserves P (decodeLoop n) := by
  induction n with
  | zero => exact fun _ hs => hs
  | succ n ih =>
    intro s hs
    rw [decodeLoop]
    split
    · exact hstop _ (hhost s hs)
    · exact (hpass _ (hhost s hs)).andThen ih

/-- What an operation and the taking of TraceExhausted preserve holds in the next state it answers. -/
theorem Preserves.runOp_next {s t : State} (hop : Preserves P op) (hhalt : ∀ s, P s → P (s.halt .traceExhausted))
    (hs : P s) (h : runOp op s = .next t) : P t := by
  have hall := hop s hs
  obtain ⟨-, hdone | ⟨u, hraised, rfl⟩⟩ := runOp_eq_next.mp h
  · rwa [hdone] at hall
  · rw [hraised] at hall
    exact hhalt u hall

end

/-! What the register and sink writes of the steps leave of the traces. -/

section
variable (s : State)

@[simp] theorem winPush_mem (b : Bit) (i : Nat) : (winPush b i s).mem = s.mem := rfl
@[simp] theorem winClear_mem : (winClear s).mem = s.mem := rfl
@[simp] theorem emit_mem (t : FrameType) (p : BitVec 64) (a b : Nat) : (emit t p a b s).mem = s.mem := rfl
@[simp] theorem subShift_mem (x : SubWindow) (b : Bit) : (subShift x b s).mem = s.mem := by cases x <;> rfl
@[simp] theorem noteStart_mem (first : Bool) : (noteStart first s).mem = s.mem := by rw [noteStart_eq]
@[simp] theorem reportParity_mem (p : Bit) (i : Nat) : (reportParity p i s).mem = s.mem := by rw [reportParity_eq]
@[simp] theorem pushSample_mem : (pushSample s).mem = s.mem := rfl
@[simp] theorem countBit_mem (n : Nat) (stay leave : Phase) : (countBit n stay leave s).mem = s.mem := rfl
@[simp] theorem closeReset_mem (b : Byte) : (closeReset b s).mem = s.mem := rfl
@[simp] theorem closeRequest_mem (b : Byte) : (closeRequest b s).mem = s.mem := by simp [closeRequest]
@[simp] theorem closeAck_mem (v : BitVec 3) : (closeAck v s).mem = s.mem := rfl
@[simp] theorem closeData_mem (tt : TransType) (v : BitVec 33) : (closeData tt v s).mem = s.mem := by simp [closeData]

end

/-! The operations, in the order of their definitions: each keeps the traces part by part, as its pseudocode reads. -/

/-- The two traces of the state are those of `m`. -/
def HasTraces (m : Memory) (s : State) : Prop :=
  s.mem = m

section
variable {m : Memory}

/-- Writes that leave the traces, whatever they write. -/
theorem pureOp_keepsTraces {f : State → State} (hf : ∀ s, (f s).mem = s.mem) : Preserves (HasTraces m) (pureOp f) :=
  preserves_pureOp fun s hs => (hf s).trans hs

theorem nextEdgeOp_keepsTraces : Preserves (HasTraces m) nextEdgeOp := by
  intro s hs
  unfold nextEdgeOp
  split <;> exact hs

theorem gotoAbsOp_keepsTraces (i : Nat) : Preserves (HasTraces m) (gotoAbsOp i) := by
  intro s hs
  unfold gotoAbsOp
  split
  · trivial
  · exact hs

theorem resync_keepsTraces : Preserves (HasTraces m) resync :=
  fun s => gotoAbsOp_keepsTraces s.clk.pos s

theorem nextEdgeIfLevel_keepsTraces (l : Bit) : Preserves (HasTraces m) (nextEdgeIfLevel l) := by
  intro s hs
  unfold nextEdgeIfLevel
  split
  · exact nextEdgeOp_keepsTraces s hs
  · exact hs

theorem samplePoint_keepsTraces (k : MarkKind) : Preserves (HasTraces m) (samplePoint k) :=
  fun _ hs => resync_keepsTraces _ hs

theorem advMasterOp_keepsTraces : Preserves (HasTraces m) advMasterOp :=
  (nextEdgeIfLevel_keepsTraces _).andThen (nextEdgeOp_keepsTraces.andThen (samplePoint_keepsTraces _))

theorem advSlaveOp_keepsTraces : Preserves (HasTraces m) advSlaveOp :=
  (nextEdgeIfLevel_keepsTraces _).andThen
    (nextEdgeOp_keepsTraces.andThen (nextEdgeOp_keepsTraces.andThen (samplePoint_keepsTraces _)))

theorem advEdgeOp_keepsTraces : Preserves (HasTraces m) advEdgeOp :=
  nextEdgeOp_keepsTraces.andThen resync_keepsTraces

theorem advTurnOp_keepsTraces : Preserves (HasTraces m) advTurnOp :=
  nextEdgeOp_keepsTraces.andThen (nextEdgeOp_keepsTraces.andThen resync_keepsTraces)

theorem returnClkPos_keepsTraces : Preserves (HasTraces m) returnClkPos :=
  fun _ hs => hs

theorem scanOp_keepsTraces : Preserves (HasTraces m) scanOp := by
  intro s hs
  unfold scanOp
  split
  · exact hs
  · exact (advMasterOp_keepsTraces s hs).andThen (pureOp_keepsTraces fun _ => rfl)

theorem resetCloseOp_keepsTraces (b : Byte) : Preserves (HasTraces m) (resetCloseOp b) :=
  advEdgeOp_keepsTraces.andThen (pureOp_keepsTraces fun _ => rfl)

theorem reqCloseOp_keepsTraces (b : Byte) : Preserves (HasTraces m) (reqCloseOp b) :=
  advEdgeOp_keepsTraces.andThen (pureOp_keepsTraces fun s => closeRequest_mem s b)

theorem ackSample_keepsTraces (first : Bool) : Preserves (HasTraces m) (ackSample first) :=
  advSlaveOp_keepsTraces.andThen (pureOp_keepsTraces fun _ => by simp)

theorem advData_keepsTraces : (tt : TransType) → Preserves (HasTraces m) (advData tt)
  | .read => advSlaveOp_keepsTraces
  | .write => advMasterOp_keepsTraces

theorem dataSample_keepsTraces (first : Bool) : Preserves (HasTraces m) (dataSample first) :=
  fun s hs => (advData_keepsTraces s.tt s hs).andThen (pureOp_keepsTraces fun _ => by simp)

theorem turn1Op_keepsTraces : Preserves (HasTraces m) turn1Op :=
  advTurnOp_keepsTraces.andThen (pureOp_keepsTraces fun _ => rfl)

theorem ackOp_keepsTraces : Preserves (HasTraces m) ackOp :=
  fun s hs => (ackSample_keepsTraces _ s hs).andThen (pureOp_keepsTraces fun _ => rfl)

theorem ackCloseOp_keepsTraces (v : BitVec 3) : Preserves (HasTraces m) (ackCloseOp v) :=
  advEdgeOp_keepsTraces.andThen (pureOp_keepsTraces fun _ => rfl)

theorem turn2Op_keepsTraces : Preserves (HasTraces m) turn2Op :=
  advTurnOp_keepsTraces.andThen (pureOp_keepsTraces fun _ => rfl)

theorem dataOp_keepsTraces : Preserves (HasTraces m) dataOp :=
  fun s hs => (dataSample_keepsTraces _ s hs).andThen (pureOp_keepsTraces fun _ => rfl)

theorem dataCloseOp_keepsTraces (v : BitVec 33) : (tt : TransType) → Preserves (HasTraces m) (dataCloseOp tt v)
  | .read => advEdgeOp_keepsTraces.andThen (pureOp_keepsTraces fun s => closeData_mem s .read v)
  | .write => advEdgeOp_keepsTraces.andThen (pureOp_keepsTraces fun s => closeData_mem s .write v)

theorem turn3Op_keepsTraces : Preserves (HasTraces m) turn3Op :=
  advTurnOp_keepsTraces.andThen (pureOp_keepsTraces fun _ => rfl)

theorem turnIf_keepsTraces (t : TransType) : Preserves (HasTraces m) (turnIf t) := by
  intro s hs
  unfold turnIf
  split
  · exact advTurnOp_keepsTraces s hs
  · exact hs

theorem dispatchOp_keepsTraces : Preserves (HasTraces m) dispatchOp :=
  advTurnOp_keepsTraces.andThen fun a ha =>
  (preserves_forFrom (fun _ => ackSample_keepsTraces _) _ _ (a.setAckw 0#3) ha).andThen <|
  advEdgeOp_keepsTraces.andThen fun c hc =>
  (turnIf_keepsTraces _ (closeAck c.ackw c) hc).andThen fun d hd =>
  (preserves_forFrom (fun _ => dataSample_keepsTraces _) _ _ (d.setDatw 0#33) hd).andThen <|
  advEdgeOp_keepsTraces.andThen fun f hf =>
  turnIf_keepsTraces _ _ ((closeData_mem f _ _).trans hf)

theorem decodePass_keepsTraces : Preserves (HasTraces m) decodePass := by
  refine advMasterOp_keepsTraces.andThen fun a ha => ?_
  split
  · exact (advEdgeOp_keepsTraces (pushSample a) ha).andThen (pureOp_keepsTraces fun _ => rfl)
  · split
    · exact (advEdgeOp_keepsTraces (pushSample a) ha).andThen fun b hb =>
        (dispatchOp_keepsTraces _ ((closeRequest_mem b _).trans hb)).andThen (pureOp_keepsTraces winClear_mem)
    · exact ha

theorem decodeOp_keepsTraces : Preserves (HasTraces m) decodeOp :=
  fun s => preserves_decodeLoop (fun a ha => a.hostMoved_mem.trans ha) (fun _ ha => ha) decodePass_keepsTraces _ s

end

/-- An operation that keeps the traces answers a next state with the traces it found: the halt writes none. -/
theorem runOp_mem {op : State → Ran} {s t : State} (hop : Preserves (HasTraces s.mem) op) (h : runOp op s = .next t) :
    t.mem = s.mem :=
  hop.runOp_next (P := HasTraces s.mem) (fun _ hs => hs) rfl h

/-- An operation that is one write answers a next state with the traces it found, if the write leaves them. -/
theorem runOp_pureOp_mem {f : State → State} {s t : State} (h : runOp (pureOp f) s = .next t)
    (hf : ∀ a, (f a).mem = a.mem) : t.mem = s.mem :=
  runOp_mem (pureOp_keepsTraces hf) h

/-- STEP keeps the traces, by the cases of what a step can do. -/
theorem execStep_mem {s t : State} (h : execStep s = .next t) : t.mem = s.mem := by
  cases execStep_cases h <;> simp [afterScan, afterAckBit, afterDataBit]

/-- Every operation keeps the traces: STEP by its cases, the others by the parts of their pseudocode. -/
theorem exec_mem {i : Instr} {s t : State} (h : exec i s = .next t) : t.mem = s.mem := by
  cases i with
  | reset => exact runOp_mem (resetCloseOp_keepsTraces _) h
  | requestR | requestW => exact runOp_mem (reqCloseOp_keepsTraces _) h
  | ackOk | ackWait | ackFault | ackOther => exact runOp_mem (ackCloseOp_keepsTraces _) h
  | dataR | dataW => exact runOp_mem (dataCloseOp_keepsTraces _ _) h
  | turn | advTurn => exact runOp_mem advTurnOp_keepsTraces h
  | nextEdge => exact runOp_mem nextEdgeOp_keepsTraces h
  | gotoAbs => exact runOp_mem (gotoAbsOp_keepsTraces _) h
  | advMaster => exact runOp_mem (advMasterOp_keepsTraces.andThen returnClkPos_keepsTraces) h
  | advSlave => exact runOp_mem (advSlaveOp_keepsTraces.andThen returnClkPos_keepsTraces) h
  | advEdge => exact runOp_mem advEdgeOp_keepsTraces h
  | noframe | frame | mark | prog | level | winPush | winClear | matchReset | matchRequest | parity | emitFrame | markOp
  | reportProgress => exact runOp_pureOp_mem h fun _ => rfl
  | subShift x b => exact runOp_pureOp_mem h fun a => subShift_mem a x b
  | step => exact execStep_mem h
  | scan => exact runOp_mem scanOp_keepsTraces h
  | resetClose => exact runOp_mem (fun a => resetCloseOp_keepsTraces (lowByte a) a) h
  | reqClose => exact runOp_mem (fun a => reqCloseOp_keepsTraces (lowByte a) a) h
  | turn1 => exact runOp_mem turn1Op_keepsTraces h
  | ack => exact runOp_mem ackOp_keepsTraces h
  | ackClose => exact runOp_mem (fun a => ackCloseOp_keepsTraces a.ackw a) h
  | turn2 => exact runOp_mem turn2Op_keepsTraces h
  | data => exact runOp_mem dataOp_keepsTraces h
  | dataClose => exact runOp_mem (fun a => dataCloseOp_keepsTraces a.datw a.tt a) h
  | turn3 => exact runOp_mem turn3Op_keepsTraces h
  | dispatch => exact runOp_mem dispatchOp_keepsTraces h
  | decode => exact runOp_mem decodeOp_keepsTraces h

/-- Settles O37: every operation keeps the traces, part by part of its pseudocode; DISPATCH and DECODE by induction on their
loops. -/
theorem noOperationChangesATrace : Obligations.NoOperationChangesATrace :=
  fun _ _ _ h => exec_mem h

end Sys2Proof.Machine
end

section
/-! The composites that take no sample, ADV_EDGE and ADV_TURN (40_cursor_ops.md R136, R137), executed by themselves in a running
decoder: the next state when the transitions are there, and the halt when one is missing (60_exceptions.md R222, decision D14).
-/

namespace Sys2Proof.Machine

section
variable {op : State → Ran} {s t : State}

/-- A running decoder in which the operation ends is left as the operation leaves it. -/
theorem runOp_next_of_done (hs : s.Running) (h : op s = .done t) : runOp op s = .next t :=
  runOp_eq_next.mpr ⟨hs, .inl h⟩

/-- TraceExhausted halts a running decoder with the clock cursor where the raise left it and nothing else changed. -/
theorem runOp_exhaustedAt_of_raised {c : Cursor} (hs : s.Running) (h : op s = .raised (s.setClk c)) :
    runOp op s = .next (s.exhaustedAt c) :=
  runOp_eq_next.mpr ⟨hs, .inr ⟨s.setClk c, h, rfl⟩⟩

end

/-- Settles O8, by whether the clock has a next transition. -/
theorem advEdgeMovesOneTransition : Obligations.AdvEdgeMovesOneTransition := by
  refine fun s hs => ⟨fun e he hd => ?moved, fun hn => ?exhausted⟩
  case moved => exact runOp_next_of_done hs (advEdgeOp_next he hd)
  case exhausted => exact runOp_exhaustedAt_of_raised hs (advEdgeOp_none hn)

/-- Settles O9, by whether the clock has two transitions left, none or exactly one. -/
theorem advTurnMovesTwoTransitions : Obligations.AdvTurnMovesTwoTransitions := by
  refine fun s hs => ⟨fun a b ha hb hd => ?moved, fun hn => ?exhausted, fun a ha hn => ?exhaustedAfterOne⟩
  case moved => exact runOp_next_of_done hs (advTurnOp_next ha hb hd)
  case exhausted => exact runOp_exhaustedAt_of_raised hs (advTurnOp_none hn)
  case exhaustedAfterOne => exact runOp_exhaustedAt_of_raised hs (advTurnOp_one ha hn)

end Sys2Proof.Machine
end

section
/-! Encodings (30_encoding.md, 10_state.md R34): the decoder and the encoder undo each other, format by format, and the matcher
reads the low byte as the decoder does. -/

namespace Sys2Proof.Machine

/-! The window byte: the three patterns by their masks. -/

/-- RESET_MASK keeps the whole byte. -/
@[simp] theorem and_resetMask (b : Byte) : b &&& 0xFF#8 = b :=
  BitVec.and_allOnes

/-- A byte under the mask of the Request rows, which fixes RnW too, is a Request-start byte under REQ_MASK. -/
theorem request_mask_of_row_mask {b v : Byte} (h : b &&& 0xA3#8 = v) : b &&& 0x83#8 = v &&& 0x83#8 := by
  rw [← h, BitVec.and_assoc]
  rfl

/-- A Request-start byte has one of the two values of RnW. -/
theorem row_mask_of_request_mask : ∀ b : Byte, b &&& 0x83#8 = 0x81#8 → b &&& 0xA3#8 = 0xA1#8 ∨ b &&& 0xA3#8 = 0x81#8 := by
  decide

theorem decodeWindow_reset : decodeWindow 0x00#8 = .reset := rfl

theorem decodeWindow_requestR (a d3 d2 p : Bit) : decodeWindow (requestByte a 1#1 d3 d2 p) = .requestR a d3 d2 p := by
  revert a d3 d2 p
  decide

theorem decodeWindow_requestW (a d3 d2 p : Bit) : decodeWindow (requestByte a 0#1 d3 d2 p) = .requestW a d3 d2 p := by
  revert a d3 d2 p
  decide

theorem decodeWindow_noframe {b : Byte} (h0 : b &&& 0xFF#8 ≠ 0x00#8) (h1 : b &&& 0x83#8 ≠ 0x81#8) :
    decodeWindow b = .noframe b := by
  have hR : b &&& 0xA3#8 ≠ 0xA1#8 := fun h => h1 (request_mask_of_row_mask h)
  have hW : b &&& 0xA3#8 ≠ 0x81#8 := fun h => h1 (request_mask_of_row_mask h)
  rw [decodeWindow, if_neg h0, if_neg hR, if_neg hW]

/-- The four readings of a window byte, each with the byte it comes from. -/
theorem decodeWindow_cases (b : Byte) :
    (b = 0x00#8 ∧ decodeWindow b = .reset) ∨
    (b &&& 0x83#8 = 0x81#8 ∧ ∃ a d3 d2 p, b = requestByte a 1#1 d3 d2 p ∧ decodeWindow b = .requestR a d3 d2 p) ∨
    (b &&& 0x83#8 = 0x81#8 ∧ ∃ a d3 d2 p, b = requestByte a 0#1 d3 d2 p ∧ decodeWindow b = .requestW a d3 d2 p) ∨
    (b ≠ 0x00#8 ∧ b &&& 0x83#8 ≠ 0x81#8 ∧ decodeWindow b = .noframe b) := by
  by_cases h0 : b &&& 0xFF#8 = 0x00#8
  · obtain rfl : b = 0x00#8 := and_resetMask b ▸ h0
    exact .inl ⟨rfl, rfl⟩
  by_cases h1 : b &&& 0x83#8 = 0x81#8
  · have hbytes : ∀ x : Byte,
        (x &&& 0xA3#8 = 0xA1#8 → x = requestByte (bitAt x 6) 1#1 (bitAt x 4) (bitAt x 3) (bitAt x 2)) ∧
        (x &&& 0xA3#8 = 0x81#8 → x = requestByte (bitAt x 6) 0#1 (bitAt x 4) (bitAt x 3) (bitAt x 2)) := by decide
    rcases row_mask_of_request_mask b h1 with hR | hW
    · have hb := (hbytes b).1 hR
      exact .inr (.inl ⟨h1, _, _, _, _, hb, by rw [decodeWindow, if_neg h0, if_pos hR]⟩)
    · have hb := (hbytes b).2 hW
      have hR : b &&& 0xA3#8 ≠ 0xA1#8 := by simp [hW]
      exact .inr (.inr (.inl ⟨h1, _, _, _, _, hb, by rw [decodeWindow, if_neg h0, if_neg hR, if_pos hW]⟩))
  · exact .inr (.inr (.inr ⟨fun hb => h0 (by simp [hb]), h1, decodeWindow_noframe h0 h1⟩))

/-! The codes. -/

@[simp] theorem FrameType.ofCode_code (t : FrameType) : FrameType.ofCode t.code = some t := by cases t <;> rfl
@[simp] theorem MarkKind.ofCode_code (k : MarkKind) : MarkKind.ofCode k.code = some k := by cases k <;> rfl
@[simp] theorem Channel.ofCode_code (c : Channel) : Channel.ofCode c.code = c := by cases c <;> rfl
@[simp] theorem TransType.ofCode_code (t : TransType) : TransType.ofCode t.code = t := by cases t <;> rfl
@[simp] theorem Phase.ofCode_code (p : Phase) : Phase.ofCode p.code = some p := by cases p <;> rfl

theorem FrameType.code_of_ofCode {c : BitVec 3} {t : FrameType} (h : FrameType.ofCode c = some t) : t.code = c := by
  revert c
  cases t <;> decide

theorem MarkKind.code_of_ofCode {c : BitVec 2} {k : MarkKind} (h : MarkKind.ofCode c = some k) : k.code = c := by
  revert c
  cases k <;> decide

@[simp] theorem Channel.code_ofCode (c : Bit) : (Channel.ofCode c).code = c := by
  revert c
  decide

@[simp] theorem TransType.code_ofCode (c : Bit) : (TransType.ofCode c).code = c := by
  revert c
  decide

theorem Phase.code_of_ofCode {c : BitVec 4} {p : Phase} (h : Phase.ofCode c = some p) : p.code = c := by
  revert c
  cases p <;> decide

/-- The operation a PHASE selects is encoded by that PHASE's code. -/
theorem Phase.encode_selects {p : Phase} {i : Instr} (h : p.selects = .ok i) : i.wf = true ∧ encode i = some (.phase p.code) := by
  cases p <;> cases h <;> exact ⟨rfl, rfl⟩

/-! The data sub-frame. -/

@[simp] theorem dataWord_data (d : BitVec 32) (p : Bit) : (dataWord d p).extractLsb' 1 32 = d :=
  BitVec.extractLsb'_append_eq_left

@[simp] theorem dataWord_parity (d : BitVec 32) (p : Bit) : bitAt (dataWord d p) 0 = p :=
  BitVec.extractLsb'_append_eq_right

theorem dataWord_of_fields (v : BitVec 33) : dataWord (v.extractLsb' 1 32) (bitAt v 0) = v := by
  rw [dataWord, bitAt, BitVec.extractLsb'_append_extractLsb'_eq_extractLsb' (by rfl)]
  simp

/-! The two directions. -/

/-- Decoding the word of a well-formed operation: by the operation's format. -/
theorem decode_encode {i : Instr} {w : Word} (hi : i.wf = true) (hw : encode i = some w) : decode w = .ok i := by
  cases i <;> cases hw
  case requestR => exact congrArg Except.ok (decodeWindow_requestR ..)
  case requestW => exact congrArg Except.ok (decodeWindow_requestW ..)
  case noframe b =>
    simp only [Instr.wf, Bool.and_eq_true, bne_iff_ne] at hi
    exact congrArg Except.ok (decodeWindow_noframe hi.1 hi.2)
  case ackOther v =>
    simp only [Instr.wf, Bool.and_eq_true, bne_iff_ne] at hi
    obtain ⟨⟨h1, h2⟩, h4⟩ := hi
    simp [decode, decodeAck, h1, h2, h4]
  case dataR d p => exact congrArg Except.ok (by simp [decodeData, TransType.ofCode])
  case dataW d p => exact congrArg Except.ok (by simp [decodeData, TransType.ofCode])
  case frame r =>
    obtain ⟨t, p, a, b, f⟩ := r
    simp only [Instr.wf] at hi
    have hflags : f = 0#8 := by
      simp only [FrameRec.wf, Bool.and_eq_true, beq_iff_eq] at hi
      exact hi.2
    subst hflags
    simp [decode, decodeFrame, hi]
  case mark m =>
    simp only [Instr.wf, MarkRec.wf, beq_iff_eq] at hi
    simp [decode, decodeMark, ← hi]
  all_goals rfl

/-- Encoding what a window byte decodes to gives the byte back. -/
theorem encode_decodeWindow (b : Byte) : (decodeWindow b).wf = true ∧ encode (decodeWindow b) = some (.window b) := by
  rcases decodeWindow_cases b with ⟨hb, h⟩ | ⟨-, a, d3, d2, p, hb, h⟩ | ⟨-, a, d3, d2, p, hb, h⟩ | ⟨h0, h1, h⟩ <;>
    rw [h]
  · exact ⟨rfl, by rw [hb]; rfl⟩
  · exact ⟨rfl, by rw [hb]; rfl⟩
  · exact ⟨rfl, by rw [hb]; rfl⟩
  · exact ⟨by simp [Instr.wf, h0, h1], rfl⟩

theorem encode_decodeAck (v : BitVec 3) : (decodeAck v).wf = true ∧ encode (decodeAck v) = some (.ack v) := by
  revert v
  decide

theorem encode_decodeData (tt : TransType) (v : BitVec 33) :
    (decodeData tt v).wf = true ∧ encode (decodeData tt v) = some (.data tt.code v) := by
  cases tt <;> exact ⟨rfl, by rw [decodeData, encode, dataWord_of_fields]; rfl⟩

theorem encode_of_decodeFrame {t : BitVec 3} {p : BitVec 64} {a b : Nat} {f : BitVec 8} {i : Instr}
    (h : decodeFrame t p a b f = .ok i) : i.wf = true ∧ encode i = some (.frame t p a b f) := by
  unfold decodeFrame at h
  split at h
  · cases h
  · next ft hft =>
    split at h
    · cases h
    · split at h
      · next hwf =>
        cases h
        exact ⟨hwf, by rw [encode, FrameType.code_of_ofCode hft]⟩
      · cases h

theorem encode_of_decodeMark {s : Nat} {k : BitVec 2} {c : Bit} {i : Instr} (h : decodeMark s k c = .ok i) :
    i.wf = true ∧ encode i = some (.mark s k c) := by
  unfold decodeMark at h
  split at h
  · cases h
  · next mk hmk =>
    split at h
    · next hc =>
      cases h
      exact ⟨by simp [Instr.wf, MarkRec.wf, hc], by rw [encode, MarkKind.code_of_ofCode hmk, Channel.code_ofCode]⟩
    · cases h

theorem encode_of_decodePhase {c : BitVec 4} {i : Instr} (h : decodePhase c = .ok i) :
    i.wf = true ∧ encode i = some (.phase c) := by
  unfold decodePhase at h
  split at h
  · cases h
  · next p hp =>
    rw [← Phase.code_of_ofCode hp]
    exact Phase.encode_selects h

/-- Encoding what a raw content decodes to: by the format of the content. -/
theorem encode_decode {i : Instr} {w : Word} (h : decode w = .ok i) : i.wf = true ∧ encode i = some w := by
  cases w with
  | window b => cases h; exact encode_decodeWindow b
  | ack v => cases h; exact encode_decodeAck v
  | data tt v =>
    cases h
    have hdata := encode_decodeData (TransType.ofCode tt) v
    rwa [TransType.code_ofCode] at hdata
  | turn => cases h; exact ⟨rfl, rfl⟩
  | frame t p a b f => exact encode_of_decodeFrame h
  | mark s k c => exact encode_of_decodeMark h
  | prog s => cases h; exact ⟨rfl, rfl⟩
  | phase c => exact encode_of_decodePhase h

/-- Settles O55, by the format of the operation. -/
theorem decodeOfEncodeGivesTheOperation : Obligations.DecodeOfEncodeGivesTheOperation :=
  fun _ _ hi hw => decode_encode hi hw

/-- Settles O56, by the format of the content. -/
theorem encodeOfDecodeGivesTheWord : Obligations.EncodeOfDecodeGivesTheWord :=
  fun _ _ h => encode_decode h

/-- Settles O57: each word is decoded by evaluation. -/
theorem writtenOutWordsDecode : Obligations.WrittenOutWordsDecode := by
  refine ⟨?_, ?_, ?_, ?_, ?_, ?_, ?_⟩ <;> rfl

/-! The matcher (41_window_match_parity.md R152, R153). -/

theorem matchReset_eq_true {s : State} : matchReset s = true ↔ 8 ≤ s.wcnt ∧ lowByte s = 0x00#8 := by
  simp [matchReset, Config.matchWidth, Config.resetMask, Config.resetMatch]

theorem matchRequest_eq_true {s : State} : matchRequest s = true ↔ 8 ≤ s.wcnt ∧ lowByte s &&& 0x83#8 = 0x81#8 := by
  simp [matchRequest]

/-- Settles O16, by the four readings of the low byte. -/
theorem matcherAgreesWithDecoder : Obligations.MatcherAgreesWithDecoder := by
  intro s hs
  simp only [← Bool.not_eq_true, matchReset_eq_true, matchRequest_eq_true, hs, true_and, decode, Except.ok.injEq]
  rcases decodeWindow_cases (lowByte s) with ⟨hb, h⟩ | ⟨hm, a, d3, d2, p, -, h⟩ | ⟨hm, a, d3, d2, p, -, h⟩ | ⟨h0, h1, h⟩
  · simp [hb, decodeWindow_reset]
  · have h0 : lowByte s ≠ 0x00#8 := fun hb => by simp [hb] at hm
    simp [h, hm, h0]
  · have h0 : lowByte s ≠ 0x00#8 := fun hb => by simp [hb] at hm
    simp [h, hm, h0]
  · simp [h, h0, h1]

end Sys2Proof.Machine
end

section
/-! Traces (20_memory.md R61, R66): the next transition is the least one ahead, and in canonical form the level toggles exactly at
the transitions. -/

namespace Sys2Proof.Machine

/-! The transitions ahead of an index, as a list. -/

/-- The transitions of a trace after index `p`, in the order of the trace. -/
def Trace.ahead (t : Trace) (p : Nat) : List Nat :=
  t.edges.filter fun e => decide (p < e)

theorem State.later_eq_ahead (s : State) : s.later = s.mem.clkt.ahead s.clk.pos := rfl

theorem leastAbove_eq_min? (p : Nat) (l : List Nat) : leastAbove p l = (l.filter fun e => decide (p < e)).min? := by
  induction l with
  | nil => rfl
  | cons a l ih =>
    by_cases h : p < a
    · simp only [leastAbove, h, if_true, ih, List.filter_cons, decide_true, List.min?_cons]
      cases (l.filter fun e => decide (p < e)).min? <;> rfl
    · simp [leastAbove, h, ih]

theorem Trace.nextEdge_eq_min?_ahead (t : Trace) (p : Nat) : t.nextEdge p = (t.ahead p).min? :=
  leastAbove_eq_min? p t.edges

theorem Trace.nextEdge_eq_some {t : Trace} {p e : Nat} :
    t.nextEdge p = some e ↔ e ∈ t.edges ∧ p < e ∧ ∀ x ∈ t.edges, p < x → e ≤ x := by
  rw [nextEdge_eq_min?_ahead, List.min?_eq_some_iff]
  simp [ahead, and_assoc]

theorem Trace.nextEdge_eq_none {t : Trace} {p : Nat} : t.nextEdge p = none ↔ ∀ x ∈ t.edges, ¬ p < x := by
  rw [nextEdge_eq_min?_ahead, List.min?_eq_none_iff]
  simp [ahead]

/-- In canonical form the next transition is the head of those ahead, and the others are those ahead of it. -/
theorem Trace.nextEdge_of_ahead {t : Trace} {p e : Nat} {es : List Nat} (hw : t.wf) (h : t.ahead p = e :: es) :
    t.nextEdge p = some e ∧ t.ahead e = es := by
  have hsorted : (e :: es).Pairwise (· < ·) := h ▸ hw.1.filter _
  have hmem : ∀ x, x ∈ t.edges ∧ p < x ↔ x ∈ e :: es := by simp [← h, ahead]
  obtain ⟨he, hes⟩ := List.pairwise_cons.mp hsorted
  have hp : p < e := ((hmem e).mpr (by simp)).2
  constructor
  · refine nextEdge_eq_some.mpr ⟨((hmem e).mpr (by simp)).1, hp, fun x hx hpx => ?_⟩
    rcases List.mem_cons.mp ((hmem x).mp ⟨hx, hpx⟩) with rfl | hx'
    · exact le_rfl
    · exact (he x hx').le
  · have hfilter : t.ahead e = (t.ahead p).filter fun x => decide (e < x) := by
      rw [ahead, ahead, List.filter_filter]
      exact List.filter_congr fun x _ => by simp; omega
    rw [hfilter, h, List.filter_cons_of_neg (by simp), List.filter_eq_self]
    simpa using he

/-- Settles O1: the least element of the transitions ahead. -/
theorem nextEdgeIsLeastLaterTransition : Obligations.NextEdgeIsLeastLaterTransition :=
  fun _ _ => ⟨fun _ => Trace.nextEdge_eq_some, Trace.nextEdge_eq_none⟩

/-! The level. -/

theorem countUpTo_eq_countP (p : Nat) (l : List Nat) : countUpTo p l = l.countP fun e => decide (e ≤ p) := by
  induction l with
  | nil => rfl
  | cons a l ih => simp [countUpTo, ih, List.countP_cons, Nat.add_comm]

/-- The transitions up to a later index are those up to the earlier one and those between. -/
theorem countUpTo_eq_add_between {p q : Nat} (h : p ≤ q) (l : List Nat) :
    countUpTo q l = countUpTo p l + l.countP fun e => decide (p < e) && decide (e ≤ q) := by
  simp only [countUpTo_eq_countP]
  induction l with
  | nil => rfl
  | cons a l ih =>
    simp only [List.countP_cons, ih, decide_eq_true_eq, Bool.and_eq_true]
    split <;> split <;> split <;> omega

/-- The levels at two indices agree when the number of transitions up to them does. -/
theorem Trace.level_eq_of_between {t : Trace} {p q n : Nat} (hpq : p ≤ q)
    (hn : (t.edges.countP fun e => decide (p < e) && decide (e ≤ q)) = n) :
    t.level q = t.level p ^^^ BitVec.ofNat 1 (n % 2) := by
  have hparity : ∀ m, BitVec.ofNat 1 ((m + n) % 2) = BitVec.ofNat 1 (m % 2) ^^^ BitVec.ofNat 1 (n % 2) := by
    intro m
    rcases Nat.mod_two_eq_zero_or_one m with hm | hm <;> rcases Nat.mod_two_eq_zero_or_one n with hn | hn <;>
      simp [Nat.add_mod, hm, hn]
  rw [level, level, countUpTo_eq_add_between hpq, hn, hparity, BitVec.xor_assoc]

/-- No transition between two indices: one level. -/
theorem Trace.level_constant {t : Trace} {p q : Nat} (hpq : p ≤ q) (h : ∀ e ∈ t.edges, p < e → q < e) :
    t.level q = t.level p := by
  have hnone : (t.edges.countP fun e => decide (p < e) && decide (e ≤ q)) = 0 := by
    simpa [List.countP_eq_zero] using h
  simpa using level_eq_of_between hpq hnone

/-- The level at the next transition is the other one. -/
theorem Trace.level_nextEdge {t : Trace} {p e : Nat} (hw : t.wf) (h : t.nextEdge p = some e) :
    t.level e = t.level p ^^^ 1#1 := by
  obtain ⟨hmem, hlt, hleast⟩ := nextEdge_eq_some.mp h
  have hone : (t.edges.countP fun x => decide (p < x) && decide (x ≤ e)) = 1 := by
    have honly : ∀ x ∈ t.edges, (decide (p < x) && decide (x ≤ e)) = true ↔ (x == e) = true := by
      intro x hx
      have := hleast x hx
      simp
      omega
    rw [List.countP_congr honly]
    exact List.count_eq_one_of_mem (hw.1.imp fun h => h.ne) hmem
  simpa using level_eq_of_between hlt.le hone

/-- Settles O2, by the number of transitions between two indices: none, or the next one alone. -/
theorem levelTogglesExactlyAtTransitions : Obligations.LevelTogglesExactlyAtTransitions := by
  refine fun t hw => ⟨?start, fun s e h => ⟨Trace.level_nextEdge hw h, fun q hsq hqe => ?between⟩, fun s q h hsq => ?last⟩
  case start =>
    have hnone : countUpTo 0 t.edges = 0 := by
      simpa [countUpTo_eq_countP, List.countP_eq_zero] using fun e he => (hw.2 e he).ne'
    simp [Trace.level, hnone]
  case between =>
    exact Trace.level_constant hsq fun x hx hsx => hqe.trans_le ((Trace.nextEdge_eq_some.mp h).2.2 x hx hsx)
  case last => exact Trace.level_constant hsq fun x hx hsx => absurd hsx (Trace.nextEdge_eq_none.mp h x hx)

end Sys2Proof.Machine
end

section
/-! Windows (41_window_match_parity.md R150, R155; 30_encoding.md R91): bits shifted in one after another assemble a field with
the first bit highest, in a window of any width. -/

namespace Sys2Proof.Machine

section
variable {n : Nat}

theorem bitAt_eq_ofBool (x : BitVec n) (i : Nat) : bitAt x i = BitVec.ofBool (x.getLsbD i) := by
  apply BitVec.eq_of_getLsbD_eq
  intro j hj
  obtain rfl : j = 0 := by omega
  simp [bitAt]

theorem bitAt_eq_one {x : BitVec n} {i : Nat} : bitAt x i = 1#1 ↔ x.getLsbD i = true := by
  rw [bitAt_eq_ofBool]
  cases x.getLsbD i <;> simp

theorem bitAt_eq_zero {x : BitVec n} {i : Nat} : bitAt x i = 0#1 ↔ x.getLsbD i = false := by
  rw [bitAt_eq_ofBool]
  cases x.getLsbD i <;> simp

theorem ofBool_getLsbD_zero (b : Bit) : BitVec.ofBool (b.getLsbD 0) = b := by
  revert b
  decide

theorem bitAt_shiftIn_zero (x : BitVec n) (b : Bit) (hn : 0 < n) : bitAt (shiftIn x b) 0 = b := by
  rw [bitAt_eq_ofBool, ← ofBool_getLsbD_zero b]
  simp [shiftIn, hn]

theorem bitAt_shiftIn_succ (x : BitVec n) (b : Bit) {i : Nat} (hi : i + 1 < n) :
    bitAt (shiftIn x b) (i + 1) = bitAt x i := by
  rw [bitAt_eq_ofBool, bitAt_eq_ofBool]
  simp [shiftIn, hi, BitVec.getLsbD_eq_getElem (Nat.lt_of_succ_lt hi)]

/-- After the bits are shifted in, the last ones are the lowest and what was in the window before is above them. -/
theorem bitAt_foldl_shiftIn (bits : List Bit) (x : BitVec n) {i : Nat} (hi : i < n) :
    bitAt (bits.foldl shiftIn x) i =
      if h : i < bits.length then bits[bits.length - 1 - i] else bitAt x (i - bits.length) := by
  induction bits generalizing x with
  | nil => rfl
  | cons b bs ih =>
    rw [List.foldl_cons, ih]
    by_cases hlow : i < bs.length
    · have hidx : bs.length - i = bs.length - 1 - i + 1 := by omega
      simp [hlow, Nat.lt_succ_of_lt hlow, hidx]
    · obtain hidx | ⟨j, hidx⟩ : i = bs.length ∨ ∃ j, i = bs.length + (j + 1) := by
        rcases Nat.lt_or_ge bs.length i with h | h
        · exact .inr ⟨i - bs.length - 1, by omega⟩
        · exact .inl (by omega)
      · subst hidx
        simp [bitAt_shiftIn_zero x b (by omega)]
      · subst hidx
        have hsub : bs.length + (j + 1) - (bs.length + 1) = j := by omega
        simp [bitAt_shiftIn_succ x b (show j + 1 < n by omega), hsub]

theorem shiftIn_eq_add (x : BitVec n) (b : Bit) : shiftIn x b = x <<< 1 + b.setWidth n := by
  refine (BitVec.add_eq_or_of_and_eq_zero _ _ (BitVec.eq_of_getLsbD_eq fun i _ => ?_)).symm
  rcases Nat.eq_zero_or_pos i with rfl | hi
  · simp
  · simp [BitVec.getLsbD_of_ge b i hi]

/-- The assembled value: the bits' own value below what was in the window before. -/
theorem foldl_shiftIn_toNat (bits : List Bit) (x : BitVec n) :
    (bits.foldl shiftIn x).toNat = (x.toNat * 2 ^ bits.length + bitsValue bits) % 2 ^ n := by
  induction bits generalizing x with
  | nil => simp [bitsValue, Nat.mod_eq_of_lt x.isLt]
  | cons b bs ih =>
    have hmod : (shiftIn x b).toNat ≡ x.toNat * 2 + b.toNat [MOD 2 ^ n] := by
      simp [shiftIn_eq_add, Nat.ModEq, Nat.shiftLeft_eq]
    have hvalue : (shiftIn x b).toNat * 2 ^ bs.length + bitsValue bs ≡
        x.toNat * 2 ^ (bs.length + 1) + bitsValue (b :: bs) [MOD 2 ^ n] := by
      refine ((hmod.mul_right _).add_right _).trans (congrArg (· % 2 ^ n) ?_)
      rw [bitsValue]
      ring
    rw [List.foldl_cons, ih]
    exact hvalue

theorem bitsValue_lt (bits : List Bit) : bitsValue bits < 2 ^ bits.length := by
  induction bits with
  | nil => simp [bitsValue]
  | cons b bs ih =>
    have hb : b.toNat * 2 ^ bs.length ≤ 1 * 2 ^ bs.length := Nat.mul_le_mul_right _ (by omega)
    simp only [bitsValue, List.length_cons, Nat.pow_succ]
    omega

/-- A window of the field's own width, cleared before, holds the field. -/
theorem foldl_shiftIn_zero_toNat {bits : List Bit} (h : bits.length = n) :
    (bits.foldl shiftIn (0 : BitVec n)).toNat = bitsValue bits := by
  subst h
  simp [foldl_shiftIn_toNat, Nat.mod_eq_of_lt (bitsValue_lt bits)]

/-- A field as the payload of a record. -/
theorem foldl_shiftIn_setWidth {bits : List Bit} (h : bits.length = n) (w : Nat) :
    (bits.foldl shiftIn (0 : BitVec n)).setWidth w = BitVec.ofNat w (bitsValue bits) := by
  apply BitVec.eq_of_toNat_eq
  rw [BitVec.toNat_setWidth, foldl_shiftIn_zero_toNat h, BitVec.toNat_ofNat]

end

/-- Settles O13, by induction on the sampled bits. -/
theorem fieldIsAssembledFirstBitHighest : Obligations.FieldIsAssembledFirstBitHighest := by
  rintro n bits rfl
  refine ⟨foldl_shiftIn_zero_toNat rfl, fun k hk => ?_⟩
  have hidx : bits.length - 1 - (bits.length - 1 - k) = k := by omega
  simp [bitAt_foldl_shiftIn bits _ (show bits.length - 1 - k < bits.length by omega), hidx,
    show bits.length - 1 - k < bits.length by omega]

/-! The scan window. -/

/-- The low byte after a push is determined by the low byte before it. -/
theorem lowByte_shiftIn (w : BitVec 32) (b : Bit) :
    (shiftIn w b).extractLsb' 0 8 = shiftIn (w.extractLsb' 0 8) b := by
  refine BitVec.eq_of_getLsbD_eq fun i hi => ?_
  rcases i with _ | i
  · simp [shiftIn]
  · simp [shiftIn, hi, show i + 1 < 32 by omega, BitVec.getLsbD_eq_getElem (show i < 32 by omega)]

theorem foldl_winPush_win (ps : List (Bit × Nat)) (s : State) :
    (ps.foldl (fun a p => winPush p.1 p.2 a) s).win = (ps.map Prod.fst).foldl shiftIn s.win := by
  induction ps generalizing s with
  | nil => rfl
  | cons p ps ih => exact ih _

theorem foldl_winPush_trk (ps : List (Bit × Nat)) (s : State) :
    (ps.foldl (fun a p => winPush p.1 p.2 a) s).trk = (ps.map Prod.snd).foldl Tracker.push s.trk := by
  induction ps generalizing s with
  | nil => rfl
  | cons p ps ih => exact ih _

/-- Settles O12: the low byte is the field of the eight bits, and eight pushes replace every tracker entry. -/
theorem eightPushesFillByteAndTracker : Obligations.EightPushesFillByteAndTracker := by
  refine fun s ps hps => ⟨?byte, fun k => ?tracker⟩
  case byte =>
    have hlen : (ps.map Prod.fst).length = 8 := by simp [hps]
    have hlt : bitsValue (ps.map Prod.fst) < 2 ^ 8 := hlen ▸ bitsValue_lt _
    simp only [lowByte, foldl_winPush_win, BitVec.extractLsb'_toNat, foldl_shiftIn_toNat, hlen, Nat.shiftRight_zero]
    omega
  case tracker =>
    rw [foldl_winPush_trk]
    match ps, hps with
    | [_, _, _, _, _, _, _, _], _ => fin_cases k <;> rfl

/-! Parity (41_window_match_parity.md R154). -/

/-- Settles O17: the fold counts the set bits of the span; over a span with hi < lo the free value is the one bit. -/
theorem parityCountsSetBits : Obligations.ParityCountsSetBits := by
  refine fun v hi lo => ⟨fun h s hs => ?_, fun h => ⟨Config.emptySpanParity v hi lo, fun s hs => ?_⟩⟩
  · rw [← parityOf_eq_setBits h]
    exact runOp_running hs
  · rw [← parityOf_emptySpan h]
    exact runOp_running hs

end Sys2Proof.Machine
end

section
/-! What a step uses of its composite edge operation (40_cursor_ops.md R134 to R140), said once for the four of them: where it
ends, that it is never refused behind the clock, and which registers it does not look at. -/

namespace Sys2Proof.Machine

/-! Registers an operation does not look at: writing them before or after it comes to the same. -/

section
variable {f : State → State} {op k : State → Ran}

/-- The same change made to whatever state an operation leaves. -/
def Ran.map (f : State → State) : Ran → Ran
  | .done s => .done (f s)
  | .raised s => .raised (f s)
  | .refused r => .refused r

/-- The operation commutes with the change `f`. -/
def Commutes (f : State → State) (op : State → Ran) : Prop :=
  ∀ s, op (f s) = (op s).map f

theorem Ran.map_andThen {r : Ran} (hk : Commutes f k) : (r.map f).andThen k = (r.andThen k).map f := by
  cases r with
  | done s => exact hk s
  | raised s => rfl
  | refused x => rfl

theorem Commutes.andThen (hop : Commutes f op) (hk : Commutes f k) : Commutes f fun s => (op s).andThen k := by
  intro s
  show (op (f s)).andThen k = _
  rw [hop s, Ran.map_andThen hk]

/-- A change of registers that the cursor operations neither read nor write. -/
structure Unread (f : State → State) : Prop where
  mem : ∀ s, (f s).mem = s.mem
  clk : ∀ s, (f s).clk = s.clk
  dio : ∀ s, (f s).dio = s.dio
  setClk : ∀ s c, (f s).setClk c = f (s.setClk c)
  setDio : ∀ s c, (f s).setDio c = f (s.setDio c)
  addMark : ∀ s m, (f s).addMark m = f (s.addMark m)

theorem nextEdgeOp_commutes (hf : Unread f) : Commutes f nextEdgeOp := by
  intro s
  rw [nextEdgeOp, nextEdgeOp, hf.mem, hf.clk]
  cases s.mem.clkt.nextEdge s.clk.pos with
  | none => rfl
  | some e => exact congrArg Ran.done (hf.setClk s _)

theorem resync_commutes (hf : Unread f) : Commutes f resync := by
  intro s
  simp only [resync, gotoAbsOp, hf.mem, hf.clk, hf.dio, hf.setDio]
  split <;> rfl

theorem nextEdgeIfLevel_commutes (hf : Unread f) (l : Bit) : Commutes f (nextEdgeIfLevel l) := by
  intro s
  rw [nextEdgeIfLevel, nextEdgeIfLevel, hf.clk]
  split
  · exact nextEdgeOp_commutes hf s
  · rfl

theorem samplePoint_commutes (hf : Unread f) (k : MarkKind) : Commutes f (samplePoint k) := by
  intro s
  rw [samplePoint, hf.clk, hf.addMark]
  exact resync_commutes hf _

end

/-! No composite asks for a backward move where the data cursor is not ahead. -/

/-- The operation is not refused, and the data cursor is not ahead where it ends. -/
def Ran.Forward : Ran → Prop
  | .done t => t.dio.pos ≤ t.clk.pos
  | .raised _ => True
  | .refused _ => False

/-- The operation goes forward wherever the data cursor is not ahead (10_state.md R24). -/
def GoesForward (op : State → Ran) : Prop :=
  ∀ s, s.dio.pos ≤ s.clk.pos → (op s).Forward

theorem GoesForward.andThen {op k : State → Ran} (hop : GoesForward op) (hk : GoesForward k) :
    GoesForward fun s => (op s).andThen k := by
  intro s hs
  have h := hop s hs
  show ((op s).andThen k).Forward
  cases hr : op s with
  | done a => rw [hr] at h; exact hk a h
  | raised a => trivial
  | refused x => rw [hr] at h; exact h

theorem nextEdgeOp_goesForward : GoesForward nextEdgeOp := by
  intro s hs
  unfold nextEdgeOp
  split
  · trivial
  · next e he => exact hs.trans (leastAbove_gt he).le

theorem resync_goesForward : GoesForward resync := by
  intro s hs
  rw [resync_forward hs]
  exact le_refl s.clk.pos

theorem nextEdgeIfLevel_goesForward (l : Bit) : GoesForward (nextEdgeIfLevel l) := by
  intro s hs
  unfold nextEdgeIfLevel
  split
  · exact nextEdgeOp_goesForward s hs
  · exact hs

theorem samplePoint_goesForward (k : MarkKind) : GoesForward (samplePoint k) :=
  fun _ hs => resync_goesForward _ hs

/-! The four composites. -/

/-- What every composite edge operation does. -/
structure Composite (adv : State → Ran) : Prop where
  done : ∀ {s t}, adv s = .done t → ∃ c ms, Reaches s c ∧ t = s.advancedTo c ms
  raised : ∀ {s t}, adv s = .raised t → ∃ c, Exhausts s c ∧ t = s.setClk c
  forward : GoesForward adv
  commutes : ∀ {f}, Unread f → Commutes f adv

theorem advMasterOp_composite : Composite advMasterOp where
  done h := (advMasterOp_done h).imp' (⟨·, 1#1⟩) fun _ he => ⟨_, he⟩
  raised := advMasterOp_raised
  forward := (nextEdgeIfLevel_goesForward _).andThen (nextEdgeOp_goesForward.andThen (samplePoint_goesForward _))
  commutes hf := (nextEdgeIfLevel_commutes hf _).andThen ((nextEdgeOp_commutes hf).andThen (samplePoint_commutes hf _))

theorem advSlaveOp_composite : Composite advSlaveOp where
  done h := (advSlaveOp_done h).imp' (⟨·, 0#1⟩) fun _ he => ⟨_, he⟩
  raised := advSlaveOp_raised
  forward := (nextEdgeIfLevel_goesForward _).andThen
    (nextEdgeOp_goesForward.andThen (nextEdgeOp_goesForward.andThen (samplePoint_goesForward _)))
  commutes hf := (nextEdgeIfLevel_commutes hf _).andThen
    ((nextEdgeOp_commutes hf).andThen ((nextEdgeOp_commutes hf).andThen (samplePoint_commutes hf _)))

theorem advEdgeOp_composite : Composite advEdgeOp where
  done {s _} h := (advEdgeOp_done h).imp' (⟨·, s.clk.lvl ^^^ 1#1⟩) fun _ he => ⟨_, he⟩
  raised := advEdgeOp_raised
  forward := nextEdgeOp_goesForward.andThen resync_goesForward
  commutes hf := (nextEdgeOp_commutes hf).andThen (resync_commutes hf)

theorem advTurnOp_composite : Composite advTurnOp where
  done {s _} h := (advTurnOp_done h).imp' (⟨·, s.clk.lvl⟩) fun _ he => ⟨_, he⟩
  raised := advTurnOp_raised
  forward := nextEdgeOp_goesForward.andThen (nextEdgeOp_goesForward.andThen resync_goesForward)
  commutes hf := (nextEdgeOp_commutes hf).andThen ((nextEdgeOp_commutes hf).andThen (resync_commutes hf))

theorem advData_composite : (tt : TransType) → Composite (advData tt)
  | .read => advSlaveOp_composite
  | .write => advMasterOp_composite

end Sys2Proof.Machine
end

section
/-! A step in one form (42_scan_reset_request.md R170): the stop test, or the composite of its PHASE followed by register writes.
-/

namespace Sys2Proof.Machine

/-- The composite a step begins with.  HALTED has no step, and its entry is not used. -/
def phaseComposite (p : Phase) (tt : TransType) : State → Ran :=
  match p with
  | .scan => advMasterOp
  | .turn1 | .turn2 | .turn3 => advTurnOp
  | .ack => advSlaveOp
  | .data => advData tt
  | .resetClose | .reqClose | .ackClose | .dataClose | .halted => advEdgeOp

theorem phaseComposite_spec (p : Phase) (tt : TransType) : Composite (phaseComposite p tt) := by
  cases p
  case scan => exact advMasterOp_composite
  case ack => exact advSlaveOp_composite
  case data => exact advData_composite tt
  case turn1 | turn2 | turn3 => exact advTurnOp_composite
  all_goals exact advEdgeOp_composite

/-- The register writes of a step, in the state its composite left. -/
def stepWrites (a : State) : State :=
  match a.phase with
  | .scan => afterScan a
  | .resetClose => (closeReset (lowByte a) a).setPhase .scan
  | .reqClose => (closeRequest (lowByte a) a).setPhase .turn1
  | .turn1 => ((a.setAckw 0#3).setBitcnt 0).setPhase .ack
  | .ack => afterAckBit (decide (a.bitcnt = 0)) a
  | .ackClose => (((closeAck a.ackw a).setDatw 0#33).setBitcnt 0).setPhase (if a.tt = .write then .turn2 else .data)
  | .turn2 => a.setPhase .data
  | .data => afterDataBit (decide (a.bitcnt = 0)) a
  | .dataClose =>
    if a.tt = .read then (closeData .read a.datw a).setPhase .turn3
    else (winClear (closeData .write a.datw a)).setPhase .scan
  | .turn3 => (winClear a).setPhase .scan
  | .halted => a

/-- What follows a composite may read the registers it leaves alone before it or after it. -/
theorem Composite.andThen_congr {adv : State → Ran} (hadv : Composite adv) {s : State} {k j : State → Ran}
    (h : ∀ c ms, k (s.advancedTo c ms) = j (s.advancedTo c ms)) : (adv s).andThen k = (adv s).andThen j := by
  cases hr : adv s with
  | done a =>
    obtain ⟨c, ms, -, rfl⟩ := hadv.done hr
    exact h c ms
  | raised a => rfl
  | refused x => rfl

/-- The rule of a step past the stop test: composite, then writes. -/
theorem execStep_eq_composite {s : State} (hr : s.Running) (hs : ¬ (s.phase = .scan ∧ s.stopreq = true)) :
    execStep s = ((phaseComposite s.phase s.tt s).andThen (pureOp stepWrites)).outcome := by
  cases hp : s.phase
  case scan =>
    have hs' : s.stopreq = false := by simpa [hp] using hs
    rw [execStep, hp, execScan, runOp_running hr, scanOp, hs']
    exact congrArg Ran.outcome (advMasterOp_composite.andThen_congr fun c ms => by simp [pureOp, stepWrites, hp, afterScan])
  case ack =>
    rw [execStep, hp, execAck, runOp_running hr, ackOp, ackSample, Ran.andThen_assoc]
    exact congrArg Ran.outcome (advSlaveOp_composite.andThen_congr fun c ms => by simp [pureOp, stepWrites, hp]; rfl)
  case data =>
    rw [execStep, hp, execData, runOp_running hr, dataOp, dataSample, Ran.andThen_assoc]
    exact congrArg Ran.outcome ((advData_composite s.tt).andThen_congr fun c ms => by simp [pureOp, stepWrites, hp]; rfl)
  case resetClose =>
    rw [execStep, hp, execResetClose, runOp_running hr, resetCloseOp]
    exact congrArg Ran.outcome (advEdgeOp_composite.andThen_congr fun c ms => by simp [pureOp, stepWrites, hp, lowByte])
  case reqClose =>
    rw [execStep, hp, execReqClose, runOp_running hr, reqCloseOp]
    exact congrArg Ran.outcome (advEdgeOp_composite.andThen_congr fun c ms => by simp [pureOp, stepWrites, hp, lowByte])
  case ackClose =>
    rw [execStep, hp, execAckClose, runOp_running hr, ackCloseOp]
    refine congrArg Ran.outcome (advEdgeOp_composite.andThen_congr fun c ms => ?_)
    cases ht : s.tt <;> simp [pureOp, stepWrites, hp, ht]
  case dataClose =>
    rw [execStep, hp, execDataClose, runOp_running hr, dataCloseOp]
    refine congrArg Ran.outcome (advEdgeOp_composite.andThen_congr fun c ms => ?_)
    cases ht : s.tt <;> simp [pureOp, stepWrites, hp, ht]
  case turn1 =>
    rw [execStep, hp, execTurn1, runOp_running hr, turn1Op]
    exact congrArg Ran.outcome (advTurnOp_composite.andThen_congr fun c ms => by simp [pureOp, stepWrites, hp])
  case turn2 =>
    rw [execStep, hp, execTurn2, runOp_running hr, turn2Op]
    exact congrArg Ran.outcome (advTurnOp_composite.andThen_congr fun c ms => by simp [pureOp, stepWrites, hp])
  case turn3 =>
    rw [execStep, hp, execTurn3, runOp_running hr, turn3Op]
    exact congrArg Ran.outcome (advTurnOp_composite.andThen_congr fun c ms => by simp [pureOp, stepWrites, hp])
  case halted => exact absurd hp hr

theorem execStep_stopped {s : State} (hp : s.phase = .scan) (hs : s.stopreq = true) :
    execStep s = .next (s.halt .stopped) := by
  rw [execStep, hp, execScan, runOp_running (by simp [hp]), scanOp, if_pos hs]
  rfl

theorem execStep_halted {s : State} (hp : s.phase = .halted) : execStep s = .fault .halted := by
  rw [execStep, hp]

/-- The next states of STEP: the honoured stop; else, while running, the writes after a completed composite, or the halt on
TraceExhausted. -/
theorem execStep_eq_next {s t : State} :
    execStep s = .next t ↔
      (s.phase = .scan ∧ s.stopreq = true ∧ t = s.halt .stopped) ∨
      (s.Running ∧ ¬ (s.phase = .scan ∧ s.stopreq = true) ∧
        ((∃ a, phaseComposite s.phase s.tt s = .done a ∧ t = stepWrites a) ∨
          ∃ u, phaseComposite s.phase s.tt s = .raised u ∧ t = u.halt .traceExhausted)) := by
  by_cases hr : s.Running
  · by_cases hs : s.phase = .scan ∧ s.stopreq = true
    · simp [execStep_stopped hs.1 hs.2, hs, eq_comm]
    · simp only [execStep_eq_composite hr hs, Ran.outcome_eq_next, Ran.andThen_eq_done, Ran.andThen_eq_raised]
      have hstop : ¬ (s.phase = .scan ∧ s.stopreq = true ∧ t = s.halt .stopped) := fun h => hs ⟨h.1, h.2.1⟩
      rw [or_iff_right hstop]
      simp [hr, hs, pureOp, eq_comm (a := t)]
  · have hp : s.phase = .halted := not_not.mp hr
    simp [execStep_halted hp, hp]

/-- With the data cursor not ahead a running decoder has a next state: no backward move is asked for. -/
theorem execStep_completes {s : State} (hr : s.Running) (hd : s.dio.pos ≤ s.clk.pos) : ∃ t, execStep s = .next t := by
  by_cases hs : s.phase = .scan ∧ s.stopreq = true
  · exact ⟨_, execStep_stopped hs.1 hs.2⟩
  · have hforward := (phaseComposite_spec s.phase s.tt).forward s hd
    rw [execStep_eq_composite hr hs]
    cases hadv : phaseComposite s.phase s.tt s with
    | done a => exact ⟨_, rfl⟩
    | raised a => exact ⟨_, rfl⟩
    | refused x => rw [hadv] at hforward; exact hforward.elim

/-- A change that no composite reads, that keeps what selects the step, and that commutes with the step's writes, commutes with
the step. -/
theorem execStep_map {f : State → State} {s t : State} (hf : Unread f) (hphase : (f s).phase = s.phase)
    (htt : (f s).tt = s.tt) (hstop : s.phase = .scan → (f s).stopreq = s.stopreq)
    (hhalt : ∀ a c, (f a).halt c = f (a.halt c)) (hwrites : ∀ a, a.phase = s.phase → stepWrites (f a) = f (stepWrites a))
    (h : execStep s = .next t) : execStep (f s) = .next (f t) := by
  have hadv := phaseComposite_spec s.phase s.tt
  have hcomm := hadv.commutes hf s
  rw [execStep_eq_next] at h ⊢
  rw [State.Running, hphase, htt, hcomm]
  rcases h with ⟨hp, hs, rfl⟩ | ⟨hr, hs, ⟨a, ha, rfl⟩ | ⟨u, hu, rfl⟩⟩
  · exact .inl ⟨hp, (hstop hp).trans hs, (hhalt s _).symm⟩
  · obtain ⟨c, ms, -, rfl⟩ := hadv.done ha
    exact .inr ⟨hr, fun hx => hs ⟨hx.1, hstop hx.1 ▸ hx.2⟩,
      .inl ⟨_, congrArg (Ran.map f) ha, (hwrites (s.advancedTo c ms) rfl).symm⟩⟩
  · exact .inr ⟨hr, fun hx => hs ⟨hx.1, hstop hx.1 ▸ hx.2⟩, .inr ⟨_, congrArg (Ran.map f) hu, (hhalt u _).symm⟩⟩

end Sys2Proof.Machine
end

section
/-! The step: the operation the PHASE selects, what a next state can be, and what a step does not look at. -/

namespace Sys2Proof.Machine

/-! The register writes of the steps, as record updates. -/

section
variable (s : State)

theorem afterScan_eq :
    afterScan s =
      { s with
        win := shiftIn s.win s.dio.lvl
        wcnt := min (s.wcnt + 1) 32
        trk := s.trk.push s.clk.pos
        phase := scanChoice (pushSample s) } := rfl

theorem closeReset_eq (b : Byte) :
    closeReset b s =
      { s with
        frames := s.frames ++ [⟨.reset, b.setWidth 64, s.trk.t7, s.clk.pos, 0#8⟩]
        progress := some s.clk.pos
        win := 0#32
        wcnt := 0
        trk := ⟨0, 0, 0, 0, 0, 0, 0, 0⟩ } := rfl

theorem closeRequest_eq (b : Byte) :
    closeRequest b s =
      { s with
        marks := s.marks ++ parityMarks b.toNat 6 2 s.trk.t2
        frames := s.frames ++ [⟨.request, b.setWidth 64, s.trk.t7, s.clk.pos, 0#8⟩]
        progress := some s.clk.pos
        tt := transTypeOf b } := by
  rw [closeRequest, requestParity, reportParity_span (by decide)]
  rfl

theorem closeAck_eq (v : BitVec 3) :
    closeAck v s =
      { s with
        frames := s.frames ++ [⟨.ack, v.setWidth 64, s.substart, s.clk.pos, 0#8⟩]
        progress := some s.clk.pos } := rfl

theorem closeData_eq (tt : TransType) (v : BitVec 33) :
    closeData tt v s =
      { s with
        marks := s.marks ++ parityMarks v.toNat 32 0 s.parpos
        frames := s.frames ++ [⟨dataFrameType tt, v.setWidth 64, s.substart, s.clk.pos, 0#8⟩]
        progress := some s.clk.pos } := by
  rw [closeData, dataParity, reportParity_span (by decide)]
  rfl

/-- The choice of a SCAN step is one of three PHASEs. -/
theorem scanChoice_cases :
    (matchReset s = true ∧ scanChoice s = .resetClose) ∨
      (matchReset s = false ∧ matchRequest s = true ∧ scanChoice s = .reqClose) ∨
      (matchReset s = false ∧ matchRequest s = false ∧ scanChoice s = .scan) := by
  unfold scanChoice
  split
  · exact .inl ⟨‹_›, rfl⟩
  · split <;> simp_all

/-- The choice depends on the low byte and the count alone. -/
theorem scanChoice_congr {a b : State} (hlow : lowByte a = lowByte b) (hcount : a.wcnt = b.wcnt) :
    scanChoice a = scanChoice b := by
  have hreset : matchReset a = matchReset b := by rw [matchReset, matchReset, hlow, hcount]
  have hrequest : matchRequest a = matchRequest b := by rw [matchRequest, matchRequest, hlow, hcount]
  rw [scanChoice, scanChoice, hreset, hrequest]

theorem scanChoice_ne_halted : scanChoice s ≠ .halted := by
  rcases scanChoice_cases s with ⟨-, h⟩ | ⟨-, -, h⟩ | ⟨-, -, h⟩ <;> simp [h]

end

/-! What a next state can be. -/

section
variable {s t : State}

/-- A step that leaves the decoder running has moved both cursors to a later transition. -/
theorem StepTo.advances (h : StepTo s t) (hr : t.Running) :
    Reaches s t.clk ∧ t.dio = ⟨t.clk.pos, s.mem.diot.level t.clk.pos⟩ := by
  cases h
  case stopped | exhausted => exact absurd rfl hr
  all_goals
    simp [afterScan_eq, closeReset_eq, closeRequest_eq, closeAck_eq, closeData_eq, afterAckBit_eq, afterDataBit_eq,
      winClear_eq, *]

/-- A step halts in one of two ways (60_exceptions.md R222, R229). -/
theorem StepTo.halted_cases (h : StepTo s t) (ht : t.phase = .halted) :
    (s.phase = .scan ∧ s.stopreq = true ∧ t = s.halt .stopped) ∨
      (¬ (s.phase = .scan ∧ s.stopreq = true) ∧ ∃ c, Exhausts s c ∧ t = (s.setClk c).halt .traceExhausted) := by
  cases h
  case stopped hp hs => exact .inl ⟨hp, hs, rfl⟩
  case exhausted hs c hc => exact .inr ⟨hs, c, hc, rfl⟩
  case scan => exact absurd ht (scanChoice_ne_halted _)
  case ack | dataRead | dataWrite | ackClose =>
    simp only [afterAckBit_eq, afterDataBit_eq, State.setPhase_phase] at ht
    split at ht <;> cases ht
  all_goals cases ht

/-- A step writes neither STOPREQ nor the host's moment. -/
theorem StepTo.host (h : StepTo s t) : t.stopreq = s.stopreq ∧ t.stopAt = s.stopAt := by
  cases h <;>
    simp [afterScan_eq, closeReset_eq, closeRequest_eq, closeAck_eq, closeData_eq, afterAckBit_eq, afterDataBit_eq,
      winClear_eq]

/-- A step writes HCAUSE only when it halts. -/
theorem StepTo.hcause (h : StepTo s t) (hr : t.Running) : t.hcause = s.hcause := by
  cases h
  case stopped | exhausted => exact absurd rfl hr
  all_goals
    simp [afterScan_eq, closeReset_eq, closeRequest_eq, closeAck_eq, closeData_eq, afterAckBit_eq, afterDataBit_eq,
      winClear_eq]

/-- Once the move is made, the host's turn changes nothing; so it does before its moment. -/
theorem step_of_hostMoved (h : s.hostMoved = s) : step s = execStep s := by
  rw [step_eq, h]

end

/-! The operation a PHASE code decodes to. -/

theorem decode_phase_code (p : Phase) : decode (.phase p.code) = p.selects := by
  cases p <;> rfl

theorem execStep_of_selects {s : State} {i : Instr} (h : s.phase.selects = .ok i) : execStep s = exec i s := by
  unfold execStep
  cases hp : s.phase <;> rw [hp] at h <;> cases h <;> rfl

theorem step_halted {s : State} (h : s.phase = .halted) : step s = .fault .halted := by
  rw [step_eq, execStep_halted (by simpa using h)]

/-- Settles O31: the PHASE code decodes to the operation of the PHASE. -/
theorem stepRunsTheDecodedOperation : Obligations.StepRunsTheDecodedOperation := by
  refine fun s => ⟨fun i hi => ?_, ?_, step_halted⟩
  · rw [decode_phase_code] at hi
    exact ⟨by rw [step_eq, execStep_of_selects (by simpa using hi)], execStep_of_selects hi⟩
  · rw [decode_phase_code]
    cases s.phase <;> simp [Phase.selects]

/-- Settles O32: STEP is the rule of its PHASE by definition, and it is not refused. -/
theorem stepOperationCompletesInEveryPhase : Obligations.StepOperationCompletesInEveryPhase := by
  intro s hr hd
  obtain ⟨t, ht⟩ := execStep_completes hr hd
  refine ⟨?_, t, ht, ?_⟩
  · rw [step_eq]
    exact execStep_completes (by simpa using hr) (by simpa using hd)
  · rw [execStep] at ht
    refine ⟨?_, ?_, ?_, ?_, ?_, ?_, ?_, ?_, ?_, ?_⟩ <;> exact fun hp => by rwa [hp] at ht

/-- Every operation but STEP, which selects one of them, is executed by `runOp`. -/
theorem exec_eq_runOp {i : Instr} (hi : i ≠ .step) : ∃ op, ∀ s, exec i s = runOp op s := by
  cases i
  case step => exact absurd rfl hi
  all_goals exact ⟨_, fun _ => rfl⟩

/-- Settles O34: `runOp` tests for HALTED first, and STEP selects nothing there. -/
theorem nothingRunsWhenHalted : Obligations.NothingRunsWhenHalted := by
  refine fun i s h => ⟨?_, step_halted h⟩
  by_cases hi : i = .step
  · rw [hi]
    exact execStep_halted h
  · obtain ⟨op, hop⟩ := exec_eq_runOp hi
    rw [hop, runOp_halted h]

/-! What is the host's: STOPREQ and the moment it chose (10_state.md R36; log 17). -/

/-- A change of STOPREQ and of the host's moment alone. -/
def State.mapHost (g : Bool → Bool) (h : Option Nat → Option Nat) (s : State) : State :=
  { s with stopreq := g s.stopreq, stopAt := h s.stopAt }

theorem State.hostMoved_eq_mapHost (s : State) : s.hostMoved = s.mapHost (fun b => b || s.stopDue) id :=
  s.hostMoved_eq

/-! The closing steps (30_encoding.md R92 to R99). -/

theorem runOp_congr {op op' : State → Ran} {s : State} (h : op s = op' s) : runOp op s = runOp op' s := by
  rw [runOp, runOp, h]

/-- RESET_CLOSE on the byte the control invariant promises is the row RESET. -/
theorem execResetClose_of_lowByte {s : State} (h : lowByte s = 0x00#8) :
    execResetClose s = exec (decodeWindow (lowByte s)) s := by
  rw [h, decodeWindow_reset]
  exact runOp_congr (by rw [h])

/-- REQ_CLOSE is the Request row of its byte. -/
theorem execReqClose_of_lowByte {s : State} (h : lowByte s &&& 0x83#8 = 0x81#8) :
    execReqClose s = exec (decodeWindow (lowByte s)) s := by
  rcases decodeWindow_cases (lowByte s) with ⟨hb, -⟩ | ⟨-, a, d3, d2, p, hb, hi⟩ | ⟨-, a, d3, d2, p, hb, hi⟩ | ⟨-, hb, -⟩
  · simp [hb] at h
  · rw [hi]
    exact runOp_congr (by rw [hb])
  · rw [hi]
    exact runOp_congr (by rw [hb])
  · exact absurd h hb

/-- ACK_CLOSE is the row of its acknowledge value. -/
theorem execAckClose_eq_decode (s : State) : execAckClose s = exec (decodeAck s.ackw) s := by
  unfold decodeAck
  split
  · next h => exact runOp_congr (by rw [h])
  split
  · next h => exact runOp_congr (by rw [h])
  split
  · next h => exact runOp_congr (by rw [h])
  · rfl

/-- DATA_CLOSE is the row of its direction. -/
theorem execDataClose_eq_decode (s : State) : execDataClose s = exec (decodeData s.tt s.datw) s := by
  cases h : s.tt <;> exact runOp_congr (by rw [h, dataWord_of_fields])

/-- The control invariant does not speak of what is the host's. -/
theorem ControlOk.mapHost {s : State} (h : ControlOk s) (g : Bool → Bool) (k : Option Nat → Option Nat) :
    ControlOk (s.mapHost g k) :=
  ⟨h.resetClose, h.reqClose, h.turn1, h.ack, h.ackClose, h.turn2, h.data, h.dataClose, h.turn3, h.transaction⟩

theorem ControlOk.hostMoved {s : State} (h : ControlOk s) : ControlOk s.hostMoved :=
  s.hostMoved_eq_mapHost ▸ h.mapHost _ _

@[simp] theorem pendingWord_hostMoved (s : State) : pendingWord s.hostMoved = pendingWord s := by
  rw [State.hostMoved_eq]
  rfl

/-- STEP on a pending content, by the four PHASEs in which one is pending. -/
theorem execStep_of_pendingWord {s : State} {w : Word} {i : Instr} (hc : ControlOk s) (hw : pendingWord s = some w)
    (hi : decode w = .ok i) : execStep s = exec i s := by
  unfold execStep
  cases hp : s.phase <;> rw [pendingWord, hp] at hw <;> cases hw
  case resetClose =>
    cases hi
    exact execResetClose_of_lowByte (hc.resetClose hp).2.1
  case reqClose =>
    cases hi
    exact execReqClose_of_lowByte (hc.reqClose hp).2.1
  case ackClose =>
    cases hi
    exact execAckClose_eq_decode s
  case dataClose =>
    rw [decode, TransType.ofCode_code] at hi
    cases hi
    exact execDataClose_eq_decode s

/-- Settles O33: the step is STEP after the host's turn, which keeps the pending content. -/
theorem closingStepRunsTheAssembledFormat : Obligations.ClosingStepRunsTheAssembledFormat := by
  intro s w i hc hw hi
  rw [step_eq]
  exact execStep_of_pendingWord hc.hostMoved (by simpa using hw) hi

/-! What a step does not look at. -/

/-- Settles O35: the two ways a step halts. -/
theorem haltingIsPreciseAndHasTwoCauses : Obligations.HaltingIsPreciseAndHasTwoCauses := by
  intro s t h ht
  rcases (step_cases h).halted_cases ht with ⟨hp, hs, rfl⟩ | ⟨hs, c, hc, rfl⟩
  · exact .inl ⟨by simpa using hp, hs, rfl⟩
  · have hle := hc.path.le
    have hended := hc.ended
    simp only [State.hostMoved_clk, State.hostMoved_mem, State.hostMoved_phase] at hs hle hended
    exact .inr ⟨hs, hle, hended, rfl⟩

section
variable (g : Bool → Bool) (h : Option Nat → Option Nat)

theorem mapHost_unread : Unread (State.mapHost g h) :=
  ⟨fun _ => rfl, fun _ => rfl, fun _ => rfl, fun _ _ => rfl, fun _ _ => rfl, fun _ _ => rfl⟩

/-- The register writes of a step neither read nor write what is the host's. -/
theorem stepWrites_mapHost (a : State) : stepWrites (a.mapHost g h) = (stepWrites a).mapHost g h := by
  have hphase : (a.mapHost g h).phase = a.phase := rfl
  have hlow : lowByte (a.mapHost g h) = lowByte a := rfl
  have hchoice : scanChoice (pushSample (a.mapHost g h)) = scanChoice (pushSample a) := scanChoice_congr rfl rfl
  unfold stepWrites
  rw [hphase]
  cases a.phase
  case scan => simp only [afterScan_eq, hchoice]; rfl
  case resetClose => rw [hlow]; rfl
  case reqClose => simp only [closeRequest_eq, hlow]; rfl
  case ack => simp only [afterAckBit_eq]; rfl
  case ackClose => simp only [closeAck_eq]; rfl
  case data => simp only [afterDataBit_eq]; rfl
  case dataClose =>
    have htt : (a.mapHost g h).tt = a.tt := rfl
    simp only [closeData_eq, htt]
    split <;> rfl
  all_goals rfl

/-- STEP commutes with a change of what is the host's, unless it is a SCAN step and the change is one of STOPREQ. -/
theorem execStep_mapHost {s t : State} (hg : s.phase = .scan → g s.stopreq = s.stopreq) (ht : execStep s = .next t) :
    execStep (s.mapHost g h) = .next (t.mapHost g h) :=
  execStep_map (mapHost_unread g h) rfl rfl hg (fun _ _ => rfl) (fun a _ => stepWrites_mapHost g h a) ht

end

/-- Settles O36: the host's turn either makes the move itself or changes nothing, and past SCAN no step reads STOPREQ. -/
theorem stopRequestWaitsForScan : Obligations.StopRequestWaitsForScan := by
  intro s t hp h
  rw [step_eq, State.hostMoved_of_stopreq _ (State.requestStop_stopreq s)]
  rw [step_eq, State.hostMoved] at h
  split at h
  · have ht : t.requestStop = t := by
      have hreq : t.stopreq = true := (execStep_cases h).host.1
      cases t
      simp_all [State.requestStop]
    rwa [ht]
  · exact execStep_mapHost (fun _ => true) id (fun hscan => absurd hscan hp) h

/-! The bits of WIN above the low byte. -/

/-- WIN replaced. -/
def State.withWin (w : BitVec 32) (s : State) : State := { s with win := w }

theorem withWin_unread (w : BitVec 32) : Unread (State.withWin w) :=
  ⟨fun _ => rfl, fun _ => rfl, fun _ => rfl, fun _ _ => rfl, fun _ _ => rfl, fun _ _ => rfl⟩

/-- The writes of a step determine the new low byte by the old one, and everything but WIN without the higher bits. -/
theorem stepWrites_withWin {a : State} {w : BitVec 32} (hw : w.extractLsb' 0 8 = a.win.extractLsb' 0 8) :
    ∃ x : BitVec 32, x.extractLsb' 0 8 = (stepWrites a).win.extractLsb' 0 8 ∧
      stepWrites (a.withWin w) = (stepWrites a).withWin x := by
  have hphase : (a.withWin w).phase = a.phase := rfl
  have hlow : lowByte (a.withWin w) = lowByte a := hw
  unfold stepWrites
  rw [hphase]
  cases a.phase
  case scan =>
    have hpush : (shiftIn w a.dio.lvl).extractLsb' 0 8 = (shiftIn a.win a.dio.lvl).extractLsb' 0 8 := by
      rw [lowByte_shiftIn, lowByte_shiftIn, hw]
    have hchoice : scanChoice (pushSample (a.withWin w)) = scanChoice (pushSample a) := scanChoice_congr hpush rfl
    exact ⟨shiftIn w a.dio.lvl, hpush, by simp only [afterScan_eq, hchoice]; rfl⟩
  case resetClose => exact ⟨0#32, rfl, by rw [hlow]; rfl⟩
  case reqClose => exact ⟨w, by simpa [closeRequest_eq] using hw, by simp only [closeRequest_eq, hlow]; rfl⟩
  case ack => exact ⟨w, by simpa [afterAckBit_eq] using hw, by simp only [afterAckBit_eq]; rfl⟩
  case ackClose => exact ⟨w, by simpa [closeAck_eq] using hw, by simp only [closeAck_eq]; rfl⟩
  case data => exact ⟨w, by simpa [afterDataBit_eq] using hw, by simp only [afterDataBit_eq]; rfl⟩
  case dataClose =>
    simp only [closeData_eq]
    have htt : (a.withWin w).tt = a.tt := rfl
    rw [htt]
    split
    · exact ⟨w, hw, rfl⟩
    · exact ⟨0#32, rfl, rfl⟩
  case turn3 => exact ⟨0#32, rfl, rfl⟩
  all_goals exact ⟨w, hw, rfl⟩

/-- Settles O39: the composite does not look at WIN, and the writes look at its low byte alone. -/
theorem highWindowBitsAreUnobservable : Obligations.HighWindowBitsAreUnobservable := by
  intro s t w hw h
  have hhost : ({ s with win := w } : State).hostMoved = s.hostMoved.withWin w := by
    rw [State.hostMoved_eq, State.hostMoved_eq]
    rfl
  have hw' : w.extractLsb' 0 8 = s.hostMoved.win.extractLsb' 0 8 := by rw [hw, State.hostMoved_win]
  rw [step_eq] at h ⊢
  rw [hhost]
  generalize s.hostMoved = u at h hw'
  have hadv := phaseComposite_spec u.phase u.tt
  have hcomm : phaseComposite u.phase u.tt (u.withWin w) = _ := hadv.commutes (withWin_unread w) u
  simp only [execStep_eq_next] at h ⊢
  rcases h with ⟨hp, hs, rfl⟩ | ⟨hr, hs, ⟨a, ha, rfl⟩ | ⟨v, hv, rfl⟩⟩
  · exact ⟨w, hw', .inl ⟨hp, hs, rfl⟩⟩
  · obtain ⟨c, ms, -, rfl⟩ := hadv.done ha
    obtain ⟨x, hx, hwrites⟩ := stepWrites_withWin (a := u.advancedTo c ms) hw'
    exact ⟨x, hx, .inr ⟨hr, hs, .inl ⟨_, hcomm.trans (congrArg (Ran.map _) ha), hwrites.symm⟩⟩⟩
  · obtain ⟨c, -, rfl⟩ := hadv.raised hv
    exact ⟨w, hw', .inr ⟨hr, hs, .inr ⟨_, hcomm.trans (congrArg (Ran.map _) hv), rfl⟩⟩⟩

end Sys2Proof.Machine
end

section
/-! Runs (42_scan_reset_request.md section 6): every step that leaves the decoder running consumes the clock, so every run halts;
and the moment of the host's stop request may be any between two steps. -/

namespace Sys2Proof.Machine

/-! Runs of a machine. -/

section
variable {M : Host.Core} {s t u : M.State} {k : Nat}

theorem coreRun_succ (h : M.step s = .next t) (k : Nat) : M.run (k + 1) s = M.run k t := by
  rw [Host.Core.run, h]

theorem coreRun_succ_eq_next : M.run (k + 1) s = .next u ↔ ∃ t, M.step s = .next t ∧ M.run k t = .next u := by
  rw [Host.Core.run]
  cases M.step s <;> simp

end

section
variable {s t u : State} {k m : Nat}

theorem run_zero (s : State) : Sys2Proof.core.run 0 s = .next s := rfl

theorem run_succ (h : step s = .next t) (k : Nat) : Sys2Proof.core.run (k + 1) s = Sys2Proof.core.run k t :=
  coreRun_succ (M := Sys2Proof.core) h k

theorem run_succ_eq_next : Sys2Proof.core.run (k + 1) s = .next u ↔ ∃ t, step s = .next t ∧ Sys2Proof.core.run k t = .next u :=
  coreRun_succ_eq_next (M := Sys2Proof.core)

theorem run_one (h : step s = .next t) : Sys2Proof.core.run 1 s = .next t :=
  run_succ h 0

theorem run_add (h : Sys2Proof.core.run k s = .next t) (m : Nat) : Sys2Proof.core.run (k + m) s = Sys2Proof.core.run m t := by
  induction k generalizing s with
  | zero =>
    cases h
    rw [Nat.zero_add]
  | succ k ih =>
    obtain ⟨a, ha, hrun⟩ := run_succ_eq_next.mp h
    rw [Nat.add_right_comm, run_succ ha, ih hrun]

/-- Before a running state a run has only running states. -/
theorem running_of_run (h : Sys2Proof.core.run k s = .next u) (hu : u.Running) : s.Running := by
  cases k with
  | zero => cases h; exact hu
  | succ k =>
    obtain ⟨t, ht, -⟩ := run_succ_eq_next.mp h
    exact running_of_step ht

/-- A step does not move the clock back. -/
theorem step_clk_le (h : step s = .next t) : s.clk.pos ≤ t.clk.pos := by
  by_cases ht : t.phase = .halted
  · rcases (step_cases h).halted_cases ht with ⟨-, -, rfl⟩ | ⟨-, c, hc, rfl⟩
    · simp [State.halt]
    · simpa [State.halt] using hc.path.le
  · simpa using ((step_cases h).advances ht).1.later.le

/-- A step that leaves the decoder running moves the clock forward, so no two moments between steps share a clock position. -/
theorem step_clk_lt (h : step s = .next t) (ht : t.Running) : s.clk.pos < t.clk.pos := by
  simpa using ((step_cases h).advances ht).1.later

theorem run_clk_le (h : Sys2Proof.core.run k s = .next u) : s.clk.pos ≤ u.clk.pos := by
  induction k generalizing s with
  | zero => cases h; exact le_rfl
  | succ k ih =>
    obtain ⟨t, ht, hrun⟩ := run_succ_eq_next.mp h
    exact (step_clk_le ht).trans (ih hrun)

theorem step_stopAt (h : step s = .next t) : t.stopAt = s.stopAt := by
  simpa using (step_cases h).host.2

theorem step_stopreq (h : step s = .next t) : t.stopreq = s.hostMoved.stopreq :=
  (step_cases h).host.1

/-- A step that leaves the decoder running leaves fewer clock transitions ahead. -/
theorem step_remaining_lt (h : step s = .next t) (ht : t.Running) : t.remaining < s.remaining := by
  have hreach := ((step_cases h).advances ht).1
  have hlt := countAbove_lt hreach.later hreach.edge
  simpa [State.remaining, step_mem h] using hlt

/-- While running, with the data cursor not ahead, a step has a next state. -/
theorem step_completes (hr : s.Running) (hd : s.dio.pos ≤ s.clk.pos) : ∃ t, step s = .next t := by
  rw [step_eq]
  exact execStep_completes (by simpa using hr) (by simpa using hd)

theorem step_keeps_lockstep (h : step s = .next t) (hs : Lockstep s) : Lockstep t :=
  (step_cases h).keeps_lockstep hs.hostMoved

end

/-- Settles O48: a step is not refused, keeps the lockstep and consumes the clock. -/
theorem everyStepCompletesAndConsumesTheClock : Obligations.EveryStepCompletesAndConsumesTheClock := by
  intro s hs hr
  obtain ⟨t, ht⟩ := step_completes hr hs.behind
  exact ⟨t, ht, step_keeps_lockstep ht hs, step_remaining_lt ht⟩

/-- Settles O49, by induction on a bound of the clock transitions ahead. -/
theorem everyRunHalts : Obligations.EveryRunHalts := by
  intro s hs
  induction hn : s.remaining using Nat.strong_induction_on generalizing s with
  | _ n ih =>
    by_cases hr : s.Running
    · obtain ⟨t, ht⟩ := step_completes hr hs.behind
      by_cases hrt : t.Running
      · have hlt := hn ▸ step_remaining_lt ht hrt
        obtain ⟨k, u, hk, hrun, hu⟩ := ih _ hlt t (step_keeps_lockstep ht hs) rfl
        exact ⟨k + 1, u, by omega, by rw [run_succ ht, hrun], hu⟩
      · exact ⟨1, t, by omega, run_one ht, not_not.mp hrt⟩
    · exact ⟨0, s, by omega, run_zero s, not_not.mp hr⟩

/-! How a run ends. -/

/-- How a state is halted when it is: Stopped, in lockstep, where the stop request was set or due, or TraceExhausted. -/
def EndedFrom (s u : State) : Prop :=
  (u.hcause = .stopped ∧ u.dio.pos = u.clk.pos ∧ (s.stopreq = true ∨ ∃ p, s.stopAt = some p ∧ p ≤ u.clk.pos)) ∨
    (u.hcause = .traceExhausted ∧ u.mem.clkt.nextEdge u.clk.pos = none)

/-- The step that halts. -/
theorem step_endedFrom {s t : State} (hs : Lockstep s) (h : step s = .next t) (ht : t.phase = .halted) : EndedFrom s t := by
  have hr := running_of_step h
  rcases (step_cases h).halted_cases ht with ⟨-, hreq, rfl⟩ | ⟨-, c, hc, rfl⟩
  · rw [State.hostMoved_stopreq, Bool.or_eq_true, State.stopDue_iff] at hreq
    exact .inl ⟨rfl, by simpa [State.halt] using hs.running hr, by simpa [State.halt] using hreq⟩
  · exact .inr ⟨rfl, by simpa [State.halt] using hc.ended⟩

/-- A stop request set after a step was set before it or was due. -/
theorem EndedFrom.of_step {s t u : State} (h : step s = .next t) (hle : t.clk.pos ≤ u.clk.pos) (ht : EndedFrom t u) :
    EndedFrom s u := by
  rcases ht with ⟨hcause, hmeet, hreq⟩ | hex
  · rw [step_stopreq h, step_stopAt h, State.hostMoved_stopreq, Bool.or_eq_true, State.stopDue_iff] at hreq
    refine .inl ⟨hcause, hmeet, ?_⟩
    rcases hreq with (hreq | ⟨p, hp, hpos⟩) | hdue
    · exact .inl hreq
    · exact .inr ⟨p, hp, hpos.trans ((step_clk_le h).trans hle)⟩
    · exact .inr hdue
  · exact .inr hex

/-- Settles O59, by induction on the clock transitions ahead. -/
theorem runsEndByStopOrTraceEnd : Obligations.RunsEndByStopOrTraceEnd := by
  intro s hs hr
  induction hn : s.remaining using Nat.strong_induction_on generalizing s with
  | _ n ih =>
    obtain ⟨t, ht⟩ := step_completes hr hs.behind
    by_cases hrt : t.Running
    · have hlt := hn ▸ step_remaining_lt ht hrt
      obtain ⟨k, u, hrun, hu, hat, hend⟩ := ih _ hlt t (step_keeps_lockstep ht hs) hrt rfl
      exact ⟨k + 1, u, by rw [run_succ ht, hrun], hu, hat.trans (step_stopAt ht), EndedFrom.of_step ht (run_clk_le hrun) hend⟩
    · have hhalt := not_not.mp hrt
      exact ⟨1, t, run_one ht, hhalt, step_stopAt ht, step_endedFrom hs ht hhalt⟩

/-! The host's moment (60_exceptions.md R229; log 17). -/

section
variable {s t u v : State} {k m p : Nat}

theorem hostMoved_scheduleStop_of_before (h : s.clk.pos < p) : (s.scheduleStop (some p)).hostMoved = s.scheduleStop (some p) := by
  simp [State.hostMoved, State.stopDue, Nat.not_le.mpr h]

/-- Up to a moment that has not come, a scheduled stop changes nothing. -/
theorem run_scheduleStop_of_before (hs : s.stopAt = none) (h : Sys2Proof.core.run k s = .next u) (hu : u.Running)
    (hp : u.clk.pos ≤ p) : Sys2Proof.core.run k (s.scheduleStop (some p)) = .next (u.scheduleStop (some p)) := by
  induction k generalizing s with
  | zero => cases h; rfl
  | succ k ih =>
    obtain ⟨t, ht, hrun⟩ := run_succ_eq_next.mp h
    have hlt : s.clk.pos < p := (step_clk_lt ht (running_of_run hrun hu)).trans_le ((run_clk_le hrun).trans hp)
    have hexec := ht
    rw [step_of_hostMoved (State.hostMoved_of_never _ hs)] at hexec
    have hstep : step (s.scheduleStop (some p)) = .next (t.scheduleStop (some p)) := by
      rw [step_of_hostMoved (hostMoved_scheduleStop_of_before hlt)]
      exact execStep_mapHost id (fun _ => some p) (fun _ => rfl) hexec
    rw [run_succ hstep]
    exact ih ((step_stopAt ht).trans hs) hrun

/-- Once STOPREQ is set, a scheduled stop changes nothing. -/
theorem run_scheduleStop_of_stopreq (hs : s.stopreq = true) (h : Sys2Proof.core.run k s = .next u) (q : Option Nat) :
    Sys2Proof.core.run k (s.scheduleStop q) = .next (u.scheduleStop q) := by
  induction k generalizing s with
  | zero => cases h; rfl
  | succ k ih =>
    obtain ⟨t, ht, hrun⟩ := run_succ_eq_next.mp h
    have hreq := step_stopreq ht
    rw [State.hostMoved_of_stopreq _ hs] at hreq
    rw [step_of_hostMoved (State.hostMoved_of_stopreq _ hs)] at ht
    have hstep : step (s.scheduleStop q) = .next (t.scheduleStop q) := by
      rw [step_of_hostMoved (State.hostMoved_of_stopreq (s.scheduleStop q) hs)]
      exact execStep_mapHost id (fun _ => q) (fun _ => rfl) ht
    rw [run_succ hstep]
    exact ih (hreq.trans hs) hrun

/-- At the moment itself the scheduled move is the move. -/
theorem step_scheduleStop_now (u : State) :
    step (u.scheduleStop (some u.clk.pos)) = step (u.requestStop.scheduleStop (some u.clk.pos)) := by
  have hnow : (u.scheduleStop (some u.clk.pos)).hostMoved = u.requestStop.scheduleStop (some u.clk.pos) := by
    simp [State.hostMoved, State.stopDue]
    rfl
  rw [step_eq, hnow, step_of_hostMoved (State.hostMoved_of_stopreq (u.requestStop.scheduleStop _) rfl)]

end

/-- Settles O58: up to the moment the scheduled run is the undisturbed one, at the moment the host's turn makes the move, and
after it the schedule has no effect. -/
theorem hostMayStopAtAnyMoment : Obligations.HostMayStopAtAnyMoment := by
  intro s u v k m hs hsu hu huv
  rw [run_add (run_scheduleStop_of_before hs hsu hu le_rfl)]
  have hafter := run_scheduleStop_of_stopreq (State.requestStop_stopreq u) huv (some u.clk.pos)
  obtain ⟨t, ht, hrun⟩ := run_succ_eq_next.mp hafter
  rw [run_succ ((step_scheduleStop_now u).trans ht), hrun]

end Sys2Proof.Machine
end

section
/-! The invariants (10_state.md R21 to R27, R33 to R35, R39, R41, R45): each is kept by every step, by the cases of what a step can
do. -/

namespace Sys2Proof.Machine

/-! What is the host's is no part of any invariant. -/

section
variable {s : State} (g : Bool → Bool) (k : Option Nat → Option Nat)

theorem WindowOk.mapHost (h : WindowOk s) : WindowOk (s.mapHost g k) :=
  ⟨h.count, h.tracked⟩

theorem FramesOk.mapHost (h : FramesOk s) : FramesOk (s.mapHost g k) :=
  ⟨h.wf, h.ordered, h.passed, h.progress, h.tracked, h.started⟩

theorem MarksOk.mapHost (h : MarksOk s) : MarksOk (s.mapHost g k) :=
  ⟨h.wf, h.ordered, h.passed⟩

theorem Inv.mapHost (h : Inv s) : Inv (s.mapHost g k) where
  coherent := ⟨h.coherent.wf, h.coherent.clk, h.coherent.dio⟩
  lockstep := ⟨h.lockstep.running, h.lockstep.behind⟩
  cause := h.cause
  window := h.window.mapHost g k
  control := h.control.mapHost g k
  frames := h.frames.mapHost g k
  marks := h.marks.mapHost g k

end

section
variable {s : State}

theorem WindowOk.hostMoved (h : WindowOk s) : WindowOk s.hostMoved :=
  s.hostMoved_eq_mapHost ▸ h.mapHost _ _

theorem FramesOk.hostMoved (h : FramesOk s) : FramesOk s.hostMoved :=
  s.hostMoved_eq_mapHost ▸ h.mapHost _ _

theorem MarksOk.hostMoved (h : MarksOk s) : MarksOk s.hostMoved :=
  s.hostMoved_eq_mapHost ▸ h.mapHost _ _

end

/-! The cursors (10_state.md R21, R22). -/

/-- Along its path the clock cursor keeps its trace's level. -/
theorem ClockPath.level {t : Trace} {c d : Cursor} (hw : t.wf) (h : ClockPath t c d) (hc : c.lvl = t.level c.pos) :
    d.lvl = t.level d.pos := by
  induction h with
  | here => exact hc
  | next _ he ih => rw [Trace.level_nextEdge hw he, ih]

theorem step_keeps_coherent {s t : State} (h : step s = .next t) (hs : Coherent s) : Coherent t := by
  have hmem := step_mem h
  have hclk : ∀ {c}, ClockPath s.hostMoved.mem.clkt s.hostMoved.clk c → c.lvl = s.mem.clkt.level c.pos := by
    intro c hc
    rw [State.hostMoved_mem, State.hostMoved_clk] at hc
    exact hc.level hs.wf.1 hs.clk
  by_cases hr : t.Running
  · obtain ⟨hreach, hdio⟩ := (step_cases h).advances hr
    exact ⟨hmem ▸ hs.wf, by rw [hmem]; exact hclk hreach.path, by rw [hmem, hdio, State.hostMoved_mem]⟩
  · rcases (step_cases h).halted_cases (not_not.mp hr) with ⟨-, -, rfl⟩ | ⟨-, c, hc, rfl⟩
    · exact ⟨hmem ▸ hs.wf, by simpa [State.halt] using hs.clk, by simpa [State.halt] using hs.dio⟩
    · exact ⟨hmem ▸ hs.wf, by simpa [State.halt] using hclk hc.path, by simpa [State.halt] using hs.dio⟩

/-- Settles O40: the path of the clock cursor, and the resync of the data cursor. -/
theorem stepKeepsCursorsCoherent : Obligations.StepKeepsCursorsCoherent :=
  fun _ _ hs h => step_keeps_coherent h hs

/-! HCAUSE (10_state.md R35). -/

theorem step_keeps_cause {s t : State} (h : step s = .next t) (hs : CauseOk s) : CauseOk t := by
  by_cases hr : t.Running
  · have hcause := (step_cases h).hcause hr
    rw [State.hostMoved_hcause, hs.mpr (running_of_step h)] at hcause
    exact ⟨fun _ => hr, fun _ => hcause⟩
  · refine ⟨fun hnone => ?_, fun hrt => absurd hrt hr⟩
    rcases (step_cases h).halted_cases (not_not.mp hr) with ⟨-, -, rfl⟩ | ⟨-, c, -, rfl⟩ <;> cases hnone

/-- Settles O42: a step writes HCAUSE exactly when it halts. -/
theorem stepKeepsHaltCause : Obligations.StepKeepsHaltCause :=
  fun _ _ hs h => step_keeps_cause h hs

/-! The window and its tracker (10_state.md R26, R27). -/

theorem Tracker.entry_push_succ (t : Tracker) (i : Nat) (k : Fin 7) : (t.push i).entry k.succ = t.entry k.castSucc := by
  fin_cases k <;> rfl

section
variable {s t : State}

/-- The invariant speaks of the window, its tracker and the data trace alone. -/
theorem WindowOk.of_same (h : WindowOk s) (hmem : t.mem = s.mem) (hwin : t.win = s.win) (hcnt : t.wcnt = s.wcnt)
    (htrk : t.trk = s.trk) : WindowOk t :=
  ⟨hcnt ▸ h.count, by rw [hcnt, hwin, hmem, htrk]; exact h.tracked⟩

theorem WindowOk.of_cleared (hcnt : t.wcnt = 0) : WindowOk t :=
  ⟨by omega, fun i hi => by omega⟩

/-- A push of the data level at `e`, tracked at `e`. -/
theorem WindowOk.of_pushed {e : Nat} (h : WindowOk s) (hmem : t.mem = s.mem)
    (hwin : t.win = shiftIn s.win (s.mem.diot.level e)) (hcnt : t.wcnt = min (s.wcnt + 1) 32)
    (htrk : t.trk = s.trk.push e) : WindowOk t := by
  refine ⟨by omega, fun i => ?_⟩
  rw [hcnt, hwin, hmem, htrk]
  cases i using Fin.cases with
  | zero => exact fun _ => bitAt_shiftIn_zero _ _ (by omega)
  | succ k =>
    intro hk
    rw [Fin.val_succ] at hk ⊢
    rw [bitAt_shiftIn_succ _ _ (by omega), Tracker.entry_push_succ]
    exact h.tracked k.castSucc (by simp; omega)

theorem StepTo.keeps_window (h : StepTo s t) (hs : WindowOk s) : WindowOk t := by
  cases h
  case scan e he => exact hs.of_pushed (e := e) rfl rfl rfl rfl
  case resetClose | writeClose | turn3 => exact .of_cleared rfl
  all_goals
    refine hs.of_same ?_ ?_ ?_ ?_ <;>
      simp [closeRequest_eq, closeAck_eq, closeData_eq, afterAckBit_eq, afterDataBit_eq, State.halt]

end

/-- Settles O43: a step pushes one tracked sample, clears the window, or leaves it. -/
theorem stepKeepsWindowTracked : Obligations.StepKeepsWindowTracked :=
  fun _ _ hs h => (step_cases h).keeps_window hs.hostMoved

/-! Control (43_transaction.md R190 to R198). -/

section
variable {s t : State}

theorem ControlOk.of_scan (h : s.phase = .scan) : ControlOk s := by
  constructor <;> simp [h, inTransaction]

theorem ControlOk.of_halted (h : s.phase = .halted) : ControlOk s := by
  constructor <;> simp [h, inTransaction]

/-- After the choice of a SCAN step, which leaves the clock high. -/
theorem ControlOk.afterScan {a : State} (hlvl : a.clk.lvl = 1#1) : ControlOk (afterScan a) := by
  have hphase : (Machine.afterScan a).phase = scanChoice (pushSample a) := rfl
  rcases scanChoice_cases (pushSample a) with ⟨hm, hc⟩ | ⟨-, hm, hc⟩ | ⟨-, -, hc⟩ <;> rw [hc] at hphase
  · obtain ⟨hcnt, hlow⟩ := matchReset_eq_true.mp hm
    constructor <;> rw [hphase] <;> simp [inTransaction]
    exact ⟨hcnt, hlow, hlvl⟩
  · obtain ⟨hcnt, hlow⟩ := matchRequest_eq_true.mp hm
    constructor <;> rw [hphase] <;> simp [inTransaction]
    exact ⟨hcnt, hlow, hlvl⟩
  · exact .of_scan hphase

/-- Inside a transaction the low byte is the Request byte and TT its bit 5. -/
def RequestHeld (s : State) : Prop :=
  lowByte s &&& 0x83#8 = 0x81#8 ∧ s.tt = (if bitAt (lowByte s) 5 = 1#1 then .read else .write)

theorem RequestHeld.of_same (h : RequestHeld s) (hwin : t.win = s.win) (htt : t.tt = s.tt) : RequestHeld t := by
  have hlow : lowByte t = lowByte s := congrArg (BitVec.extractLsb' 0 8) hwin
  rw [RequestHeld, hlow, htt]
  exact h

/-- What ControlOk says on entry to a step of a transaction, by its PHASE. -/
def transactionEntry (s : State) : Phase → Prop
  | .turn1 => s.clk.lvl = 0#1
  | .ack => s.bitcnt < 3 ∧ s.clk.lvl = 0#1
  | .ackClose => s.bitcnt = 3 ∧ s.clk.lvl = 0#1
  | .turn2 => s.tt = .write ∧ s.bitcnt = 0 ∧ s.clk.lvl = 1#1
  | .data => s.bitcnt < 33 ∧ s.clk.lvl = (if s.bitcnt = 0 then 1#1 else sampleLevel s.tt)
  | .dataClose => s.bitcnt = 33 ∧ s.clk.lvl = sampleLevel s.tt
  | .turn3 => s.tt = .read ∧ s.clk.lvl = 1#1
  | .scan | .resetClose | .reqClose | .halted => False

theorem ControlOk.of_transaction (hentry : transactionEntry s s.phase) (hheld : RequestHeld s) : ControlOk s where
  resetClose h := by rw [h] at hentry; exact hentry.elim
  reqClose h := by rw [h] at hentry; exact hentry.elim
  turn1 h := by rw [h] at hentry; exact hentry
  ack h := by rw [h] at hentry; exact hentry
  ackClose h := by rw [h] at hentry; exact hentry
  turn2 h := by rw [h] at hentry; exact hentry
  data h := by rw [h] at hentry; exact hentry
  dataClose h := by rw [h] at hentry; exact hentry
  turn3 h := by rw [h] at hentry; exact hentry
  transaction _ := hheld

theorem ControlOk.requestHeld (h : ControlOk s) (hin : inTransaction s.phase = true) : RequestHeld s :=
  h.transaction hin

/-- A DATA step that samples at its direction's level. -/
theorem afterDataBit_entry {a : State} {first : Bool} (hcnt : a.bitcnt < 33) (hlvl : a.clk.lvl = sampleLevel a.tt) :
    transactionEntry (afterDataBit first a) (afterDataBit first a).phase := by
  rw [afterDataBit_eq]
  by_cases hlast : a.bitcnt + 1 = 33
  · simp [hlast, transactionEntry, hlvl]
  · simp [hlast, transactionEntry, hlvl]
    omega

theorem StepTo.keeps_control (h : StepTo s t) (hs : ControlOk s) : ControlOk t := by
  cases h
  case stopped | exhausted => exact .of_halted rfl
  case scan => exact .afterScan rfl
  case resetClose | writeClose | turn3 => exact .of_scan rfl
  case reqClose hp e he =>
    obtain ⟨hcnt, hlow, hlvl⟩ := hs.reqClose hp
    refine .of_transaction ?_ ?_
    · simp [transactionEntry, closeRequest_eq, hlvl]
    · rw [closeRequest_eq]
      exact ⟨hlow, rfl⟩
  case turn1 hp e he =>
    have hlvl := hs.turn1 hp
    exact .of_transaction (by simp [transactionEntry, hlvl])
      ((hs.requestHeld (by rw [hp]; rfl)).of_same rfl rfl)
  case ack hp e he =>
    obtain ⟨hcnt, hlvl⟩ := hs.ack hp
    refine .of_transaction ?_ ((hs.requestHeld (by rw [hp]; rfl)).of_same ?_ ?_) <;> rw [afterAckBit_eq]
    · by_cases hlast : s.bitcnt = 2
      · simp [hlast, transactionEntry]
      · simp [hlast, transactionEntry]
        omega
    · rfl
    · rfl
  case ackClose hp e he =>
    obtain ⟨hcnt, hlvl⟩ := hs.ackClose hp
    refine .of_transaction ?_ ((hs.requestHeld (by rw [hp]; rfl)).of_same rfl rfl)
    rw [closeAck_eq]
    cases htt : s.tt <;> simp [transactionEntry, hlvl, htt]
  case turn2 hp e he =>
    obtain ⟨htt, hcnt, hlvl⟩ := hs.turn2 hp
    exact .of_transaction (by simp [transactionEntry, hcnt, hlvl])
      ((hs.requestHeld (by rw [hp]; rfl)).of_same rfl rfl)
  case dataRead hp htt e he =>
    obtain ⟨hcnt, hlvl⟩ := hs.data hp
    refine .of_transaction (afterDataBit_entry hcnt (by simp [htt, sampleLevel]))
      ((hs.requestHeld (by rw [hp]; rfl)).of_same ?_ ?_) <;> rw [afterDataBit_eq] <;> rfl
  case dataWrite hp htt e he =>
    obtain ⟨hcnt, hlvl⟩ := hs.data hp
    refine .of_transaction (afterDataBit_entry hcnt (by simp [htt, sampleLevel]))
      ((hs.requestHeld (by rw [hp]; rfl)).of_same ?_ ?_) <;> rw [afterDataBit_eq] <;> rfl
  case readClose hp htt e he =>
    obtain ⟨hcnt, hlvl⟩ := hs.dataClose hp
    refine .of_transaction ?_ ((hs.requestHeld (by rw [hp]; rfl)).of_same ?_ ?_) <;> rw [closeData_eq]
    · simp [transactionEntry, htt, hlvl, sampleLevel]
    · rfl
    · rfl

end

/-- Settles O44, by the step's PHASE: what its writes leave is what the next step is entered with. -/
theorem stepKeepsControl : Obligations.StepKeepsControl :=
  fun _ _ hs h => (step_cases h).keeps_control hs.hostMoved

/-! The frame sink (10_state.md R39, R45). -/

section
variable {s t : State}

/-- The part of the frame invariant that speaks of the sinks and the clock position alone. -/
structure FrameSinkOk (s : State) : Prop where
  wf : ∀ f ∈ s.frames, f.wf = true
  ordered : s.frames.Pairwise fun f g => f.endSample < g.startSample
  passed : ∀ f ∈ s.frames, f.endSample ≤ s.clk.pos
  progress : s.progress = s.frames.getLast?.map FrameRec.endSample

theorem FramesOk.sink (h : FramesOk s) : FrameSinkOk s :=
  ⟨h.wf, h.ordered, h.passed, h.progress⟩

/-- What lies after the clock position lies after every frame. -/
theorem FrameSinkOk.endsBefore (h : FrameSinkOk s) {i : Nat} (hi : s.clk.pos < i) : endsBefore s.frames i :=
  fun f hf => (h.passed f hf).trans_lt hi

/-- A later clock position. -/
theorem FrameSinkOk.of_later (h : FrameSinkOk s) (hf : t.frames = s.frames) (hp : t.progress = s.progress)
    (hle : s.clk.pos ≤ t.clk.pos) : FrameSinkOk t :=
  ⟨hf ▸ h.wf, hf ▸ h.ordered, hf ▸ fun f hm => (h.passed f hm).trans hle, by rw [hp, hf]; exact h.progress⟩

/-- One more frame, which starts after the others and ends at the new clock position, reported. -/
theorem FrameSinkOk.of_emitted {ty : FrameType} {p : BitVec 64} {i : Nat} (h : FrameSinkOk s)
    (hf : t.frames = s.frames ++ [⟨ty, p, i, t.clk.pos, 0#8⟩]) (hp : t.progress = some t.clk.pos)
    (hle : s.clk.pos ≤ t.clk.pos) (hadmits : ty.admits p = true) (hstart : Machine.endsBefore s.frames i)
    (hi : i ≤ t.clk.pos) : FrameSinkOk t where
  wf := by
    rw [hf]
    intro f hm
    rcases List.mem_append.mp hm with hm | hm
    · exact h.wf f hm
    · rw [List.mem_singleton.mp hm]
      simp [FrameRec.wf, hadmits, hi]
  ordered := by
    rw [hf, List.pairwise_append]
    exact ⟨h.ordered, List.pairwise_singleton _ _, fun f hm g hg => by rw [List.mem_singleton.mp hg]; exact hstart f hm⟩
  passed := by
    rw [hf]
    intro f hm
    rcases List.mem_append.mp hm with hm | hm
    · exact (h.passed f hm).trans hle
    · rw [List.mem_singleton.mp hm]
  progress := by simp [hf, hp]

/-- In a PHASE that has noted no start, only the sinks count. -/
theorem FramesOk.of_sink (h : FrameSinkOk t)
    (hscan : t.phase = .scan ∨ t.phase = .resetClose ∨ t.phase = .reqClose → t.wcnt = 0)
    (hstarted : t.phase = .ack ∨ t.phase = .ackClose ∨ t.phase = .data ∨ t.phase = .dataClose → t.bitcnt = 0) : FramesOk t :=
  ⟨h.wf, h.ordered, h.passed, h.progress, fun hp i hi => by have := hscan hp; omega,
    fun hp hb => by have := hstarted hp; omega⟩

/-! The payloads (30_encoding.md R103). -/

theorem admits_reset : FrameType.reset.admits ((0x00#8).setWidth 64) = true := by decide

theorem admits_request {b : Byte} (hb : b &&& 0x83#8 = 0x81#8) : FrameType.request.admits (b.setWidth 64) = true := by
  simp [FrameType.admits, hb]

theorem admits_ack (v : BitVec 3) : FrameType.ack.admits (v.setWidth 64) = true := by
  simp [FrameType.admits]

theorem admits_data (tt : TransType) (v : BitVec 33) : (dataFrameType tt).admits (v.setWidth 64) = true := by
  cases tt <;> simp [FrameType.admits, dataFrameType]

/-! The steps. -/

/-- A SCAN step tracks one more index, past every frame. -/
theorem FramesOk.afterScan {e : Nat} {ms : List MarkRec} {l : Bit} (hs : FramesOk s) (hp : s.phase = .scan)
    (he : s.clk.pos < e) : FramesOk (afterScan (s.advancedTo ⟨e, l⟩ ms)) := by
  have hsink : FrameSinkOk (Machine.afterScan (s.advancedTo ⟨e, l⟩ ms)) := hs.sink.of_later rfl rfl he.le
  refine ⟨hsink.wf, hsink.ordered, hsink.passed, hsink.progress, fun _ i => ?_, fun hstarted => ?_⟩
  · cases i using Fin.cases with
    | zero => exact fun _ => ⟨hs.sink.endsBefore he, le_refl e⟩
    | succ k =>
      intro hk
      have hk' : (k.castSucc : Nat) < s.wcnt := by
        simp only [afterScan_eq, State.advancedTo_wcnt, Fin.val_succ] at hk
        simp only [Fin.val_castSucc]
        omega
      obtain ⟨hends, hle⟩ := hs.tracked (.inl hp) k.castSucc hk'
      simp only [afterScan_eq, State.advancedTo_trk, State.advancedTo_frames, State.advancedTo_clk, Tracker.entry_push_succ]
      exact ⟨hends, hle.trans he.le⟩
  · have hphase : (Machine.afterScan (s.advancedTo ⟨e, l⟩ ms)).phase = scanChoice (pushSample (s.advancedTo ⟨e, l⟩ ms)) := rfl
    rw [hphase] at hstarted
    rcases scanChoice_cases (pushSample (s.advancedTo ⟨e, l⟩ ms)) with ⟨-, hc⟩ | ⟨-, -, hc⟩ | ⟨-, -, hc⟩ <;>
      simp [hc] at hstarted

/-- A sampled bit of a sub-frame: the first one notes the start, past every frame. -/
theorem FramesOk.of_sampledBit (hs : FramesOk s)
    (hp : s.phase = .ack ∨ s.phase = .ackClose ∨ s.phase = .data ∨ s.phase = .dataClose) (hf : t.frames = s.frames)
    (hr : t.progress = s.progress) (hlt : s.clk.pos < t.clk.pos)
    (hstart : t.substart = if s.bitcnt = 0 then t.clk.pos else s.substart)
    (ht : t.phase ≠ .scan ∧ t.phase ≠ .resetClose ∧ t.phase ≠ .reqClose) : FramesOk t := by
  have hsink : FrameSinkOk t := hs.sink.of_later hf hr hlt.le
  refine ⟨hsink.wf, hsink.ordered, hsink.passed, hsink.progress, fun h => ?_, fun _ _ => ?_⟩
  · simp [ht] at h
  · rw [hf, hstart]
    split
    · exact ⟨hs.sink.endsBefore hlt, le_rfl⟩
    · obtain ⟨hends, hle⟩ := hs.started hp (by omega)
      exact ⟨hends, hle.trans hlt.le⟩

theorem afterAckBit_framesOk {e : Nat} {l : Bit} {ms : List MarkRec} (hs : FramesOk s) (hp : s.phase = .ack)
    (he : s.clk.pos < e) : FramesOk (afterAckBit (decide (s.bitcnt = 0)) (s.advancedTo ⟨e, l⟩ ms)) := by
  rw [afterAckBit_eq]
  refine hs.of_sampledBit (.inl hp) rfl rfl he (by simp) ?_
  by_cases hlast : s.bitcnt = 2 <;> simp [hlast]

theorem afterDataBit_framesOk {e : Nat} {l : Bit} {ms : List MarkRec} (hs : FramesOk s) (hp : s.phase = .data)
    (he : s.clk.pos < e) : FramesOk (afterDataBit (decide (s.bitcnt = 0)) (s.advancedTo ⟨e, l⟩ ms)) := by
  rw [afterDataBit_eq]
  refine hs.of_sampledBit (.inr (.inr (.inl hp))) rfl rfl he (by simp) ?_
  by_cases hlast : s.bitcnt = 32 <;> simp [hlast]

theorem StepTo.keeps_frames (h : StepTo s t) (hc : ControlOk s) (hs : FramesOk s) : FramesOk t := by
  cases h
  case stopped => exact .of_sink (hs.sink.of_later rfl rfl le_rfl) (by simp [State.halt]) (by simp [State.halt])
  case exhausted c hx =>
    exact .of_sink (hs.sink.of_later rfl rfl hx.path.le) (by simp [State.halt]) (by simp [State.halt])
  case scan hp _ e he => exact hs.afterScan hp he.later
  case resetClose hp e he =>
    obtain ⟨hcnt, hlow, -⟩ := hc.resetClose hp
    obtain ⟨hends, hle⟩ := hs.tracked (.inr (.inl hp)) 7 (Nat.lt_of_lt_of_le (by decide) hcnt)
    rw [hlow]
    exact .of_sink (hs.sink.of_emitted rfl rfl he.later.le admits_reset hends (hle.trans he.later.le)) (fun _ => rfl) (by simp)
  case reqClose hp e he =>
    obtain ⟨hcnt, hlow, -⟩ := hc.reqClose hp
    obtain ⟨hends, hle⟩ := hs.tracked (.inr (.inr hp)) 7 (Nat.lt_of_lt_of_le (by decide) hcnt)
    rw [closeRequest_eq]
    exact .of_sink (hs.sink.of_emitted rfl rfl he.later.le (admits_request hlow) hends (hle.trans he.later.le)) (by simp)
      (by simp)
  case turn1 e he => exact .of_sink (hs.sink.of_later rfl rfl he.later.le) (by simp) (fun _ => rfl)
  case ack hp e he => exact afterAckBit_framesOk hs hp he.later
  case ackClose hp e he =>
    obtain ⟨hends, hle⟩ := hs.started (.inr (.inl hp)) (by rw [(hc.ackClose hp).1]; decide)
    refine .of_sink (hs.sink.of_emitted rfl rfl he.later.le (admits_ack s.ackw) hends (hle.trans he.later.le)) ?_ (fun _ => rfl)
    cases s.tt <;> simp
  case turn2 hp e he =>
    exact .of_sink (hs.sink.of_later rfl rfl he.later.le) (by simp) (fun _ => (hc.turn2 hp).2.1)
  case dataRead hp _ e he | dataWrite hp _ e he => exact afterDataBit_framesOk hs hp he.later
  case readClose hp _ e he =>
    obtain ⟨hends, hle⟩ := hs.started (.inr (.inr (.inr hp))) (by rw [(hc.dataClose hp).1]; decide)
    rw [closeData_eq]
    exact .of_sink (hs.sink.of_emitted rfl rfl he.later.le (admits_data .read s.datw) hends (hle.trans he.later.le)) (by simp)
      (by simp)
  case writeClose hp _ e he =>
    obtain ⟨hends, hle⟩ := hs.started (.inr (.inr (.inr hp))) (by rw [(hc.dataClose hp).1]; decide)
    rw [closeData_eq]
    exact .of_sink (hs.sink.of_emitted rfl rfl he.later.le (admits_data .write s.datw) hends (hle.trans he.later.le))
      (fun _ => rfl) (by simp)
  case turn3 e he => exact .of_sink (hs.sink.of_later rfl rfl he.later.le) (fun _ => rfl) (by simp)

end

/-- Settles O45: a frame is emitted from a noted start, which lies after the frames before it, to the new clock position. -/
theorem stepKeepsFramesOrdered : Obligations.StepKeepsFramesOrdered :=
  fun _ _ hc hs h => (step_cases h).keeps_frames hc.hostMoved hs.hostMoved

/-! The annotation sink (30_encoding.md R105). -/

@[simp] theorem sampleMarks_append (ms ns : List MarkRec) : sampleMarks (ms ++ ns) = sampleMarks ms ++ sampleMarks ns :=
  List.filter_append ..

/-- A parity report is one well-formed marker or none, and no sample marker. -/
theorem parityMarks_wf {v hi lo i : Nat} : ∀ m ∈ parityMarks v hi lo i, m.wf = true := by
  unfold parityMarks
  split <;> simp [MarkRec.wf, MarkKind.channel]

@[simp] theorem sampleMarks_parityMarks (v hi lo i : Nat) : sampleMarks (parityMarks v hi lo i) = [] := by
  unfold parityMarks
  split <;> rfl

section
variable {s t : State}

/-- A later clock position, and markers that are no samples. -/
theorem MarksOk.of_later {ns : List MarkRec} (h : MarksOk s) (hm : t.marks = s.marks ++ ns) (hwf : ∀ m ∈ ns, m.wf = true)
    (hns : sampleMarks ns = []) (hle : s.clk.pos ≤ t.clk.pos) : MarksOk t := by
  have hsame : sampleMarks t.marks = sampleMarks s.marks := by rw [hm, sampleMarks_append, hns, List.append_nil]
  refine ⟨fun m hmem => ?_, hsame ▸ h.ordered, hsame ▸ fun m hmem => (h.passed m hmem).trans hle⟩
  rw [hm] at hmem
  exact (List.mem_append.mp hmem).elim (h.wf m) (hwf m)

/-- One more sample marker, at the new clock position. -/
theorem MarksOk.of_sample {k : MarkKind} (h : MarksOk s) (hm : t.marks = s.marks ++ [⟨t.clk.pos, k, .clk⟩])
    (hk : k = .masterSample ∨ k = .slaveSample) (hlt : s.clk.pos < t.clk.pos) : MarksOk t := by
  have hsample : sampleMarks t.marks = sampleMarks s.marks ++ [⟨t.clk.pos, k, .clk⟩] := by
    rw [hm, sampleMarks_append]
    rcases hk with rfl | rfl <;> rfl
  refine ⟨fun m hmem => ?_, ?_, fun m hmem => ?_⟩
  · rw [hm] at hmem
    rcases List.mem_append.mp hmem with hmem | hmem
    · exact h.wf m hmem
    · rw [List.mem_singleton.mp hmem]
      rcases hk with rfl | rfl <;> rfl
  · rw [hsample, List.pairwise_append]
    exact ⟨h.ordered, List.pairwise_singleton _ _,
      fun m hmem n hn => by rw [List.mem_singleton.mp hn]; exact (h.passed m hmem).trans_lt hlt⟩
  · rw [hsample] at hmem
    rcases List.mem_append.mp hmem with hmem | hmem
    · exact (h.passed m hmem).trans hlt.le
    · rw [List.mem_singleton.mp hmem]

theorem StepTo.keeps_marks (h : StepTo s t) (hs : MarksOk s) : MarksOk t := by
  cases h
  case stopped => exact hs.of_later (ns := []) (by simp [State.halt]) (by simp) rfl le_rfl
  case exhausted c hx => exact hs.of_later (ns := []) (by simp [State.halt]) (by simp) rfl hx.path.le
  case scan e he => exact hs.of_sample rfl (.inl rfl) he.later
  case ack e he =>
    rw [afterAckBit_eq]
    exact hs.of_sample rfl (.inr rfl) he.later
  case dataRead e he =>
    rw [afterDataBit_eq]
    exact hs.of_sample rfl (.inr rfl) he.later
  case dataWrite e he =>
    rw [afterDataBit_eq]
    exact hs.of_sample rfl (.inl rfl) he.later
  case reqClose e he =>
    rw [closeRequest_eq]
    exact hs.of_later (ns := parityMarks (lowByte s).toNat 6 2 s.trk.t2) (by simp) parityMarks_wf (by simp) he.later.le
  case readClose e he | writeClose e he =>
    rw [closeData_eq]
    exact hs.of_later (ns := parityMarks s.datw.toNat 32 0 s.parpos) (by simp [winClear_eq]) parityMarks_wf (by simp) he.later.le
  case resetClose e he | turn1 e he | ackClose e he | turn2 e he | turn3 e he =>
    exact hs.of_later (ns := []) (by simp [closeReset_eq, closeAck_eq, winClear_eq]) (by simp) rfl he.later.le

end

/-- Settles O46: a step appends one sample marker at its new clock position, a parity report, or nothing. -/
theorem stepKeepsMarksOrdered : Obligations.StepKeepsMarksOrdered :=
  fun _ _ hs h => (step_cases h).keeps_marks hs.hostMoved

/-! All invariants together. -/

theorem step_keeps_inv {s t : State} (h : step s = .next t) (hs : Inv s) : Inv t where
  coherent := step_keeps_coherent h hs.coherent
  lockstep := step_keeps_lockstep h hs.lockstep
  cause := step_keeps_cause h hs.cause
  window := (step_cases h).keeps_window hs.window.hostMoved
  control := (step_cases h).keeps_control hs.control.hostMoved
  frames := (step_cases h).keeps_frames hs.control.hostMoved hs.frames.hostMoved
  marks := (step_cases h).keeps_marks hs.marks.hostMoved

/-- Creation: both cursors at START_SAMPLE, an empty window and empty sinks. -/
theorem created_inv {c d : Trace} (hc : c.wf) (hd : d.wf) : Inv (State.created c d) where
  coherent := ⟨⟨hc, hd⟩, rfl, rfl⟩
  lockstep := ⟨fun _ => rfl, le_rfl⟩
  cause := by simp [CauseOk, State.Running, State.created, State.reset]
  window := .of_cleared rfl
  control := .of_scan rfl
  frames := .of_sink ⟨by simp [State.created, State.reset], by simp [State.created, State.reset],
    by simp [State.created, State.reset], rfl⟩ (fun _ => rfl) (fun _ => rfl)
  marks := ⟨by simp [State.created, State.reset], by simp [State.created, State.reset, sampleMarks],
    by simp [State.created, State.reset, sampleMarks]⟩

/-- Settles O47: creation meets the invariants, and what is the host's is no part of them. -/
theorem creationMeetsTheInvariants : Obligations.CreationMeetsTheInvariants :=
  ⟨fun _ _ hc hd => created_inv hc hd, fun _ p hs => ⟨hs.mapHost (fun _ => true) id, hs.mapHost id (fun _ => p)⟩, rfl⟩

end Sys2Proof.Machine
end

section
/-! Each operation executed by itself in a running decoder: its whole next state, and the halt where the clock runs out
(40_cursor_ops.md, 41_window_match_parity.md, 42_scan_reset_request.md, 43_transaction.md). -/

namespace Sys2Proof.Machine

/-! An operation that is a composite and then writes. -/

section
variable {op k : State → Ran} {r : Ran} {s a t : State} {c : Cursor}

theorem runOp_andThen_next (hs : s.Running) (hop : op s = r.andThen k) (hr : r = .done a) (hk : k a = .done t) :
    runOp op s = .next t :=
  runOp_next_of_done hs (by rw [hop, hr, Ran.done_andThen, hk])

theorem runOp_andThen_exhaustedAt (hs : s.Running) (hop : op s = r.andThen k) (hr : r = .raised (s.setClk c)) :
    runOp op s = .next (s.exhaustedAt c) :=
  runOp_exhaustedAt_of_raised hs (by rw [hop, hr, Ran.raised_andThen])

/-- An operation that is one write answers it. -/
theorem runOp_pureOp {f : State → State} (hs : s.Running) : runOp (pureOp f) s = .next (f s) :=
  runOp_running hs

end

/-! Cursor operations (40_cursor_ops.md). -/

/-- Settles O3, by whether the clock has a next transition. -/
theorem nextEdgeMovesOrExhausts : Obligations.NextEdgeMovesOrExhausts := by
  refine fun s hs => ⟨fun e he => ?_, fun hn => ?_⟩
  · exact runOp_next_of_done hs (nextEdgeOp_eq_done.mpr ⟨e, he, rfl⟩)
  · exact runOp_exhaustedAt_of_raised hs (nextEdgeOp_eq_raised.mpr ⟨hn, rfl⟩)

/-- Settles O4, by whether the index is behind the data cursor. -/
theorem gotoAbsMovesForwardOrIsRefused : Obligations.GotoAbsMovesForwardOrIsRefused := by
  refine fun s i hs => ⟨fun hi => ?_, fun hi => ?_⟩
  · exact runOp_next_of_done hs (gotoAbsOp_eq_done.mpr ⟨hi, rfl⟩)
  · have hback : gotoAbsOp i s = .refused .backwardMove := gotoAbsOp_eq_refused.mpr ⟨hi, rfl⟩
    exact (runOp_running hs).trans (congrArg Ran.outcome hback)

/-- Settles O5: the cached level of a coherent state is the trace's. -/
theorem levelReturnsTheCursorsLevel : Obligations.LevelReturnsTheCursorsLevel := by
  intro s hs hc
  rw [← hc.clk, ← hc.dio]
  exact ⟨runOp_pureOp hs, runOp_pureOp hs⟩

section
variable {s a : State} {c : Cursor}

theorem execAdvMaster_next (hs : s.Running) (h : advMasterOp s = .done a) :
    exec .advMaster s = .next { a with ret := .index a.clk.pos } :=
  runOp_andThen_next (op := fun a => (advMasterOp a).andThen returnClkPos) hs rfl h rfl

theorem execAdvMaster_exhaustedAt (hs : s.Running) (h : advMasterOp s = .raised (s.setClk c)) :
    exec .advMaster s = .next (s.exhaustedAt c) :=
  runOp_andThen_exhaustedAt (op := fun a => (advMasterOp a).andThen returnClkPos) hs rfl h

theorem execAdvSlave_next (hs : s.Running) (h : advSlaveOp s = .done a) :
    exec .advSlave s = .next { a with ret := .index a.clk.pos } :=
  runOp_andThen_next (op := fun a => (advSlaveOp a).andThen returnClkPos) hs rfl h rfl

theorem execAdvSlave_exhaustedAt (hs : s.Running) (h : advSlaveOp s = .raised (s.setClk c)) :
    exec .advSlave s = .next (s.exhaustedAt c) :=
  runOp_andThen_exhaustedAt (op := fun a => (advSlaveOp a).andThen returnClkPos) hs rfl h

end

/-- Settles O6, by the clock level and the transitions ahead. -/
theorem advMasterLandsOnRisingEdge : Obligations.AdvMasterLandsOnRisingEdge := by
  refine fun s hs => ⟨fun r hl hr hd => ?low, fun f r hl hf hr hd => ?high, fun hn => ?none, fun f hl hf hn => ?one⟩
  case low => exact execAdvMaster_next hs (advMasterOp_low hl hr hd)
  case high => exact execAdvMaster_next hs (advMasterOp_high hl hf hr hd)
  case none => exact execAdvMaster_exhaustedAt hs (advMasterOp_none hn)
  case one => exact execAdvMaster_exhaustedAt hs (advMasterOp_high_one hl hf hn)

/-- With one transition left from a given level, ADV_SLAVE ends on it with the level toggled. -/
theorem advSlaveOp_one_at {s : State} {l m : Bit} {a : Nat} (hl : s.clk.lvl = l) (hm : l ^^^ 1#1 = m)
    (ha : s.mem.clkt.nextEdge s.clk.pos = some a) (hb : s.mem.clkt.nextEdge a = none) :
    advSlaveOp s = .raised (s.setClk ⟨a, m⟩) := by
  rw [advSlaveOp_one ha hb, hl, hm]

/-- Settles O7, by the clock level and the transitions ahead. -/
theorem advSlaveLandsOnFallingEdge : Obligations.AdvSlaveLandsOnFallingEdge := by
  refine fun s hs => ⟨fun r f hl hr hf hd => ?low, fun d r f hl hd hr hf hp => ?high, fun hn => ?none,
    fun r hl hr hn => ?lowOne, fun d hl hd hn => ?highOne, fun d r hl hd hr hn => ?highTwo⟩
  case low => exact execAdvSlave_next hs (advSlaveOp_low hl hr hf hd)
  case high => exact execAdvSlave_next hs (advSlaveOp_high hl hd hr hf hp)
  case none => exact execAdvSlave_exhaustedAt hs (advSlaveOp_none hn)
  case lowOne => exact execAdvSlave_exhaustedAt hs (advSlaveOp_one_at hl rfl hr hn)
  case highOne => exact execAdvSlave_exhaustedAt hs (advSlaveOp_one_at hl rfl hd hn)
  case highTwo => exact execAdvSlave_exhaustedAt hs (advSlaveOp_high_two hl hd hr hn)

/-- Settles O10: entered low, both readings make two NEXT_EDGEs; entered high, the rejected one makes one. -/
theorem slaveReadingsAgreeWhenEnteredLow : Obligations.SlaveReadingsAgreeWhenEnteredLow := by
  refine fun s => ⟨fun hl => ?_, fun f hl hf hd => ?_⟩
  · simp [advSlaveWith, nextEdgeIfLevel, hl]
  · simp [advSlaveWith, nextEdgeIfLevel, nextEdgeOp, samplePoint, resync, gotoAbsOp, hl, hf, Nat.not_lt.mpr hd]
    rfl

/-! Window and sinks. -/

/-- Settles O11: one write. -/
theorem winPushShiftsWindowAndTracker : Obligations.WinPushShiftsWindowAndTracker :=
  fun _ _ _ hs => runOp_pureOp hs

/-- Settles O14: one write each. -/
theorem winClearAndSubShiftWriteTheirWindow : Obligations.WinClearAndSubShiftWriteTheirWindow :=
  fun _ _ hs => ⟨runOp_pureOp hs, runOp_pureOp hs, runOp_pureOp hs⟩

/-- Settles O15: the predicates test the count and the low byte. -/
theorem matchPredicatesTestTheLowByte : Obligations.MatchPredicatesTestTheLowByte := by
  intro s hs
  have hreset : matchReset s = decide (8 ≤ s.wcnt ∧ s.win.extractLsb' 0 8 &&& 0xFF#8 = 0x00#8) := by
    rw [Bool.eq_iff_iff, matchReset_eq_true, and_resetMask, decide_eq_true_iff]
    rfl
  have hrequest : matchRequest s = decide (8 ≤ s.wcnt ∧ s.win.extractLsb' 0 8 &&& 0x83#8 = 0x81#8) := by
    rw [Bool.eq_iff_iff, matchRequest_eq_true, decide_eq_true_iff]
    rfl
  rw [← hreset, ← hrequest]
  exact ⟨runOp_pureOp hs, runOp_pureOp hs⟩

/-- Settles O18: one write each. -/
theorem recordsReachTheirSink : Obligations.RecordsReachTheirSink :=
  fun _ _ _ _ hs => ⟨runOp_pureOp hs, runOp_pureOp hs, runOp_pureOp hs⟩

/-- Settles O19: one write each. -/
theorem emitFrameReportsItsEnd : Obligations.EmitFrameReportsItsEnd :=
  fun _ _ _ _ _ _ _ _ hs => ⟨runOp_pureOp hs, runOp_pureOp hs, runOp_pureOp hs⟩

/-- Settles O24: one write. -/
theorem unmatchedByteProducesNothing : Obligations.UnmatchedByteProducesNothing :=
  fun _ _ hs => runOp_pureOp hs

/-! Scan, Reset, Request (42_scan_reset_request.md). -/

section
variable {s : State} {e : Nat}

theorem scanChoice_eq (s : State) :
    scanChoice s =
      if 8 ≤ s.wcnt ∧ lowByte s = 0x00#8 then .resetClose
      else if 8 ≤ s.wcnt ∧ lowByte s &&& 0x83#8 = 0x81#8 then .reqClose
      else .scan := by
  simp only [scanChoice, matchReset_eq_true, matchRequest_eq_true]

theorem afterScan_sampledAt (s : State) (r : Nat) : afterScan (s.sampledAt r 1#1 .masterSample) = scannedAt s r := by
  rw [afterScan_eq, scanChoice_eq]
  rfl

/-- SCAN past the stop test. -/
theorem scanOp_eq (h : s.stopreq = false) : scanOp s = (advMasterOp s).andThen (pureOp afterScan) := by
  rw [scanOp, h]
  rfl

/-- Settles O20, by the stop request, the clock level and the transitions ahead. -/
theorem scanSamplesPushesAndChooses : Obligations.ScanSamplesPushesAndChooses := by
  refine fun s hs => ⟨fun hq => ?stop, fun r hq hl hr hd => ?low, fun f r hq hl hf hr hd => ?high, fun hq hn => ?none,
    fun f hq hl hf hn => ?one⟩
  case stop => exact runOp_next_of_done hs (if_pos hq)
  case low =>
    rw [← afterScan_sampledAt]
    exact runOp_andThen_next hs (scanOp_eq hq) (advMasterOp_low hl hr hd) rfl
  case high =>
    rw [← afterScan_sampledAt]
    exact runOp_andThen_next hs (scanOp_eq hq) (advMasterOp_high hl hf hr hd) rfl
  case none => exact runOp_andThen_exhaustedAt hs (scanOp_eq hq) (advMasterOp_none hn)
  case one => exact runOp_andThen_exhaustedAt hs (scanOp_eq hq) (advMasterOp_high_one hl hf hn)

/-- Decoding a Reset of byte `b`, when the closing edge comes and when it does not. -/
theorem resetCloseOp_next (b : Byte) (he : s.mem.clkt.nextEdge s.clk.pos = some e) (hd : s.dio.pos ≤ e) :
    resetCloseOp b s = .done (resetClosedAt s e b) := by
  rw [resetCloseOp, advEdgeOp_next he hd]
  rfl

theorem resetCloseOp_none (b : Byte) (hn : s.mem.clkt.nextEdge s.clk.pos = none) : resetCloseOp b s = .raised s := by
  rw [resetCloseOp, advEdgeOp_none hn]
  rfl

/-- Settles O21, by whether the clock has a next transition. -/
theorem resetCloseEmitsResetFrame : Obligations.ResetCloseEmitsResetFrame := by
  refine fun s hs => ⟨fun e he hd => ⟨?_, ?_⟩, fun hn => ⟨?_, ?_⟩⟩
  · exact runOp_next_of_done hs (resetCloseOp_next _ he hd)
  · exact runOp_next_of_done hs (resetCloseOp_next _ he hd)
  · exact runOp_exhaustedAt_of_raised hs (resetCloseOp_none _ hn)
  · exact runOp_exhaustedAt_of_raised hs (resetCloseOp_none _ hn)

theorem transTypeOf_eq (b : Byte) : transTypeOf b = if b.getLsbD 5 then .read else .write := by
  rw [transTypeOf, bitAt_eq_ofBool]
  cases b.getLsbD 5 <;> rfl

/-- Decoding a Request of byte `b`, when the closing edge comes and when it does not. -/
theorem reqCloseOp_next (b : Byte) (he : s.mem.clkt.nextEdge s.clk.pos = some e) (hd : s.dio.pos ≤ e) :
    reqCloseOp b s = .done (requestClosedAt s e b) := by
  rw [reqCloseOp, advEdgeOp_next he hd, Ran.done_andThen, closeRequest_eq, transTypeOf_eq]
  rfl

theorem reqCloseOp_none (b : Byte) (hn : s.mem.clkt.nextEdge s.clk.pos = none) : reqCloseOp b s = .raised s := by
  rw [reqCloseOp, advEdgeOp_none hn]
  rfl

/-- Settles O22, by whether the clock has a next transition. -/
theorem requestCloseEmitsRequestFrame : Obligations.RequestCloseEmitsRequestFrame := by
  refine fun s a d3 d2 p hs => ⟨fun e he hd => ⟨?_, ?_, ?_⟩, fun hn => ⟨?_, ?_, ?_⟩⟩
  · exact runOp_next_of_done hs (reqCloseOp_next _ he hd)
  · exact runOp_next_of_done hs (reqCloseOp_next _ he hd)
  · exact runOp_next_of_done hs (reqCloseOp_next _ he hd)
  · exact runOp_exhaustedAt_of_raised hs (reqCloseOp_none _ hn)
  · exact runOp_exhaustedAt_of_raised hs (reqCloseOp_none _ hn)
  · exact runOp_exhaustedAt_of_raised hs (reqCloseOp_none _ hn)

/-- The Request parity is the exclusive or of the five bits (30_encoding.md R97). -/
theorem requestParity_eq_xor (b : Byte) :
    requestParity b = bitAt b 6 ^^^ bitAt b 5 ^^^ bitAt b 4 ^^^ bitAt b 3 ^^^ bitAt b 2 := by
  rw [requestParity, parityOf, if_neg (by decide)]
  show xorFold b.toNat 2 5 = _
  simp [xorFold, bitAt_eq_ofBool, BitVec.getLsbD]

/-- A parity report, by the parity. -/
theorem parityMarks_eq {v hi lo : Nat} (h : lo ≤ hi) (i : Nat) :
    parityMarks v hi lo i = if parityOf v hi lo = 1#1 then [⟨i, .parityError, .dio⟩] else [] := by
  rw [parityMarks, parityOf_eq_setBits h]
  rcases Nat.mod_two_eq_zero_or_one (setBits v hi lo) with hk | hk <;> simp [hk]

/-- Settles O23: the report depends on the parity, and nothing else does. -/
theorem requestParityIsReportedOnly : Obligations.RequestParityIsReportedOnly := by
  intro s e hs he hd
  have hnext : exec .reqClose s = .next (requestClosedAt s e (lowByte s)) :=
    runOp_next_of_done hs (reqCloseOp_next _ he hd)
  have hmarks : (requestClosedAt s e (lowByte s)).marks =
      s.marks ++ (if requestParity (lowByte s) = 1#1 then [⟨s.trk.t2, .parityError, .dio⟩] else []) :=
    congrArg (s.marks ++ ·) (parityMarks_eq (by decide) _)
  rw [← requestParity_eq_xor]
  refine ⟨_, hnext, fun hp => by rw [hmarks, if_pos hp], fun hp => by simp [hmarks, hp], rfl, ?_, rfl⟩
  rw [bitAt_eq_ofBool]
  show (if (lowByte s).getLsbD 5 then TransType.read else .write).code = _
  cases (lowByte s).getLsbD 5 <;> rfl

end

/-! The transaction (43_transaction.md). -/

/-- Settles O25, by whether the clock has two transitions left, none or exactly one. -/
theorem turnaroundStepsAdvanceThePhase : Obligations.TurnaroundStepsAdvanceThePhase := by
  refine fun s hs => ⟨fun a b ha hb hd => ?two, fun hn => ?none, fun a ha hn => ?one⟩
  case two =>
    have hturn := advTurnOp_next ha hb hd
    exact ⟨runOp_andThen_next hs rfl hturn rfl, runOp_andThen_next hs rfl hturn rfl, runOp_andThen_next hs rfl hturn rfl,
      runOp_next_of_done hs hturn⟩
  case none =>
    have hturn := advTurnOp_none hn
    exact ⟨runOp_andThen_exhaustedAt hs rfl hturn, runOp_andThen_exhaustedAt hs rfl hturn,
      runOp_andThen_exhaustedAt hs rfl hturn, runOp_exhaustedAt_of_raised hs hturn⟩
  case one =>
    have hturn := advTurnOp_one ha hn
    exact ⟨runOp_andThen_exhaustedAt hs rfl hturn, runOp_andThen_exhaustedAt hs rfl hturn,
      runOp_andThen_exhaustedAt hs rfl hturn, runOp_exhaustedAt_of_raised hs hturn⟩

section
variable {s : State} {e : Nat}

theorem ackOp_eq (s : State) : ackOp s = (advSlaveOp s).andThen (pureOp (afterAckBit (decide (s.bitcnt = 0)))) := by
  rw [ackOp, ackSample, Ran.andThen_assoc]
  rfl

theorem afterAckBit_sampledAt (s : State) (f : Nat) :
    afterAckBit (decide (s.bitcnt = 0)) (s.sampledAt f 0#1 .slaveSample) = ackSampledAt s f := by
  simp [afterAckBit_eq, ackSampledAt, shiftIn]

/-- Settles O26, by the clock level and the transitions ahead. -/
theorem ackStepShiftsOneSlaveSample : Obligations.AckStepShiftsOneSlaveSample := by
  refine fun s hs => ⟨fun r f hl hr hf hd => ?low, fun d r f hl hd hr hf hp => ?high, fun hn => ?none,
    fun r hl hr hn => ?lowOne, fun d hl hd hn => ?highOne, fun d r hl hd hr hn => ?highTwo⟩
  case low =>
    rw [← afterAckBit_sampledAt]
    exact runOp_andThen_next hs (ackOp_eq s) (advSlaveOp_low hl hr hf hd) rfl
  case high =>
    rw [← afterAckBit_sampledAt]
    exact runOp_andThen_next hs (ackOp_eq s) (advSlaveOp_high hl hd hr hf hp) rfl
  case none => exact runOp_andThen_exhaustedAt hs (ackOp_eq s) (advSlaveOp_none hn)
  case lowOne => exact runOp_andThen_exhaustedAt hs (ackOp_eq s) (advSlaveOp_one_at hl rfl hr hn)
  case highOne => exact runOp_andThen_exhaustedAt hs (ackOp_eq s) (advSlaveOp_one_at hl rfl hd hn)
  case highTwo => exact runOp_andThen_exhaustedAt hs (ackOp_eq s) (advSlaveOp_high_two hl hd hr hn)

/-- Closing an acknowledge of value `v`, when the closing edge comes and when it does not. -/
theorem ackCloseOp_next (v : BitVec 3) (he : s.mem.clkt.nextEdge s.clk.pos = some e) (hd : s.dio.pos ≤ e) :
    ackCloseOp v s = .done (ackClosedAt s e v) := by
  rw [ackCloseOp, advEdgeOp_next he hd, Ran.done_andThen, closeAck_eq, ackClosedAt]
  cases s.tt <;> rfl

theorem ackCloseOp_none (v : BitVec 3) (hn : s.mem.clkt.nextEdge s.clk.pos = none) : ackCloseOp v s = .raised s := by
  rw [ackCloseOp, advEdgeOp_none hn]
  rfl

/-- Settles O27: every value is closed by the one rule, by whether the clock has a next transition. -/
theorem ackCloseEmitsAckFrameWhateverTheValue : Obligations.AckCloseEmitsAckFrameWhateverTheValue := by
  refine fun s v hs => ⟨fun e he hd => ⟨?_, ?_, ?_, ?_, ?_⟩, fun hn => ⟨?_, ?_, ?_, ?_, ?_⟩⟩
  case refine_1 | refine_2 | refine_3 | refine_4 | refine_5 => exact runOp_next_of_done hs (ackCloseOp_next _ he hd)
  all_goals exact runOp_exhaustedAt_of_raised hs (ackCloseOp_none _ hn)

theorem dataOp_eq (s : State) : dataOp s = (advData s.tt s).andThen (pureOp (afterDataBit (decide (s.bitcnt = 0)))) := by
  rw [dataOp, dataSample, Ran.andThen_assoc]
  rfl

theorem afterDataBit_sampledAt (s : State) (e : Nat) (l : Bit) (k : MarkKind) :
    afterDataBit (decide (s.bitcnt = 0)) (s.sampledAt e l k) = dataSampledAt s e l k := by
  simp [afterDataBit_eq, dataSampledAt, shiftIn]

theorem advData_none (tt : TransType) (hn : s.mem.clkt.nextEdge s.clk.pos = none) : advData tt s = .raised s := by
  cases tt
  · exact advMasterOp_none hn
  · exact advSlaveOp_none hn

/-- Settles O28, by the direction, the clock level and the transitions ahead. -/
theorem dataStepSamplesOnTheDrivingSide : Obligations.DataStepSamplesOnTheDrivingSide := by
  refine fun s hs => ⟨fun r f ht hl hr hf hd => ?readLow, fun d r f ht hl hd hr hf hp => ?readHigh,
    fun r ht hl hr hd => ?writeLow, fun f r ht hl hf hr hd => ?writeHigh, fun hn => ?none⟩
  case none => exact runOp_andThen_exhaustedAt hs (dataOp_eq s) (advData_none s.tt hn)
  all_goals
    rw [← afterDataBit_sampledAt]
    refine runOp_andThen_next hs (dataOp_eq s) ?_ rfl
    rw [ht]
  case readLow => exact advSlaveOp_low hl hr hf hd
  case readHigh => exact advSlaveOp_high hl hd hr hf hp
  case writeLow => exact advMasterOp_low hl hr hd
  case writeHigh => exact advMasterOp_high hl hf hr hd

/-- Closing a data sub-frame of content `v`, in each direction, when the closing edge comes and when it does not. -/
theorem dataCloseOp_read (v : BitVec 33) (he : s.mem.clkt.nextEdge s.clk.pos = some e) (hd : s.dio.pos ≤ e) :
    dataCloseOp .read v s = .done (readClosedAt s e v) := by
  rw [dataCloseOp, advEdgeOp_next he hd, Ran.done_andThen, closeData_eq _ .read]
  rfl

theorem dataCloseOp_write (v : BitVec 33) (he : s.mem.clkt.nextEdge s.clk.pos = some e) (hd : s.dio.pos ≤ e) :
    dataCloseOp .write v s = .done (writeClosedAt s e v) := by
  rw [dataCloseOp, advEdgeOp_next he hd, Ran.done_andThen, closeData_eq _ .write]
  rfl

theorem dataCloseOp_none (tt : TransType) (v : BitVec 33) (hn : s.mem.clkt.nextEdge s.clk.pos = none) :
    dataCloseOp tt v s = .raised s := by
  rw [dataCloseOp, advEdgeOp_none hn]
  rfl

theorem exec_dataClose (s : State) : exec .dataClose s = runOp (fun a => dataCloseOp a.tt a.datw a) s := rfl

theorem execDataClose_read (hs : s.Running) (ht : s.tt = .read) (he : s.mem.clkt.nextEdge s.clk.pos = some e)
    (hd : s.dio.pos ≤ e) : exec .dataClose s = .next (readClosedAt s e s.datw) :=
  (exec_dataClose s).trans (runOp_next_of_done hs (by rw [ht]; exact dataCloseOp_read _ he hd))

theorem execDataClose_write (hs : s.Running) (ht : s.tt = .write) (he : s.mem.clkt.nextEdge s.clk.pos = some e)
    (hd : s.dio.pos ≤ e) : exec .dataClose s = .next (writeClosedAt s e s.datw) :=
  (exec_dataClose s).trans (runOp_next_of_done hs (by rw [ht]; exact dataCloseOp_write _ he hd))

/-- Settles O29, by the direction and whether the clock has a next transition. -/
theorem dataCloseEmitsReadOrWriteFrame : Obligations.DataCloseEmitsReadOrWriteFrame := by
  refine fun s d p hs => ⟨fun e he hd => ⟨fun ht => ?_, fun ht => ?_, ?_, ?_⟩, fun hn => ⟨?_, ?_, ?_⟩⟩
  · exact execDataClose_read hs ht he hd
  · exact execDataClose_write hs ht he hd
  · exact runOp_next_of_done hs (dataCloseOp_read _ he hd)
  · exact runOp_next_of_done hs (dataCloseOp_write _ he hd)
  · exact (exec_dataClose s).trans (runOp_exhaustedAt_of_raised hs (dataCloseOp_none _ _ hn))
  · exact runOp_exhaustedAt_of_raised hs (dataCloseOp_none _ _ hn)
  · exact runOp_exhaustedAt_of_raised hs (dataCloseOp_none _ _ hn)

theorem parityMarks_of_odd {v hi lo i : Nat} (h : setBits v hi lo % 2 = 1) :
    parityMarks v hi lo i = [⟨i, .parityError, .dio⟩] :=
  if_pos h

theorem parityMarks_of_even {v hi lo i : Nat} (h : setBits v hi lo % 2 = 0) : parityMarks v hi lo i = [] :=
  if_neg (by omega)

/-- Settles O30, by the direction: the report depends on the parity, and nothing else does. -/
theorem dataParityIsReportedOnly : Obligations.DataParityIsReportedOnly := by
  intro s e hs he hd
  cases ht : s.tt
  case read =>
    refine ⟨_, execDataClose_read hs ht he hd, fun hodd => ?_, fun heven => ?_, fun _ => ⟨rfl, rfl⟩, nofun⟩
    · simp [readClosedAt, parityMarks_of_odd hodd]
    · simp [readClosedAt, parityMarks_of_even heven]
  case write =>
    refine ⟨_, execDataClose_write hs ht he hd, fun hodd => ?_, fun heven => ?_, nofun, fun _ => ⟨rfl, rfl⟩⟩
    · simp [writeClosedAt, parityMarks_of_odd hodd]
    · simp [writeClosedAt, parityMarks_of_even heven]

end

end Sys2Proof.Machine
end

section
/-! A transaction step by step, from REQ_CLOSE back to SCAN (43_transaction.md R190 to R198): after each step the clock stands at a
numbered transition, and the sub-frame windows hold the levels sampled so far. -/

namespace Sys2Proof.Machine

/-! The numbered transitions. -/

theorem laterAt_ahead {s : State} (hw : s.mem.wf) {k : Nat} (hk : k < s.later.length) :
    s.mem.clkt.ahead (s.laterAt k) = s.later.drop (k + 1) := by
  induction k with
  | zero =>
    have hcons : s.mem.clkt.ahead s.clk.pos = s.later[0] :: s.later.drop 1 := (List.drop_eq_getElem_cons hk)
    rw [State.laterAt, List.getD_eq_getElem _ _ hk]
    exact (Trace.nextEdge_of_ahead hw.1 hcons).2
  | succ k ih =>
    have hcons := (ih (by omega)).trans (List.drop_eq_getElem_cons hk)
    rw [State.laterAt, List.getD_eq_getElem _ _ hk]
    exact (Trace.nextEdge_of_ahead hw.1 hcons).2

/-- After the clock cursor comes transition 0. -/
theorem nextEdge_laterAt_zero {s : State} (hw : s.mem.wf) (h : 0 < s.later.length) :
    s.mem.clkt.nextEdge s.clk.pos = some (s.laterAt 0) := by
  have hcons : s.mem.clkt.ahead s.clk.pos = s.later[0] :: s.later.drop 1 := List.drop_eq_getElem_cons h
  rw [State.laterAt, List.getD_eq_getElem _ _ h]
  exact (Trace.nextEdge_of_ahead hw.1 hcons).1

/-- After transition `k` comes transition `k + 1`. -/
theorem nextEdge_laterAt_succ {s : State} (hw : s.mem.wf) {k : Nat} (hk : k + 1 < s.later.length) :
    s.mem.clkt.nextEdge (s.laterAt k) = some (s.laterAt (k + 1)) := by
  have hcons := (laterAt_ahead hw (by omega : k < s.later.length)).trans (List.drop_eq_getElem_cons hk)
  rw [State.laterAt, State.laterAt, List.getD_eq_getElem _ _ hk]
  exact (Trace.nextEdge_of_ahead hw.1 hcons).1

/-- The levels of a field, one more bit at the end. -/
theorem levelsFrom_succ (s : State) (start n : Nat) :
    s.levelsFrom start (n + 1) = s.levelsFrom start n ++ [s.mem.diot.level (s.laterAt (start + 2 * n))] := by
  simp [State.levelsFrom, List.range_succ]

@[simp] theorem levelsFrom_length (s : State) (start n : Nat) : (s.levelsFrom start n).length = n := by
  simp [State.levelsFrom]

/-! Where a state of the transaction stands. -/

/-- A state of the run from `s`, with the clock cursor at transition `k` after `s`. -/
structure StandsAt (s : State) (k : Nat) (u : State) : Prop where
  inv : Inv u
  mem : u.mem = s.mem
  pos : u.clk.pos = s.laterAt k

section
variable {s u v : State} {k j : Nat}

theorem Inv.hostMoved (h : Inv u) : Inv u.hostMoved :=
  u.hostMoved_eq_mapHost ▸ h.mapHost _ _

theorem StandsAt.hostMoved (h : StandsAt s k u) : StandsAt s k u.hostMoved :=
  ⟨h.inv.hostMoved, by simpa using h.mem, by simpa using h.pos⟩

theorem StandsAt.of_step (h : StandsAt s k u) (hstep : step u = .next v) (hpos : v.clk.pos = s.laterAt j) : StandsAt s j v :=
  ⟨step_keeps_inv hstep h.inv, (step_mem hstep).trans h.mem, hpos⟩

theorem StandsAt.wf (h : StandsAt s k u) : s.mem.wf :=
  h.mem ▸ h.inv.coherent.wf

/-- The next transition of the clock, not behind the data cursor. -/
theorem StandsAt.next (h : StandsAt s k u) (hk : k + 1 < s.later.length) :
    u.mem.clkt.nextEdge u.clk.pos = some (s.laterAt (k + 1)) ∧ u.dio.pos ≤ s.laterAt (k + 1) := by
  have hnext := nextEdge_laterAt_succ h.wf hk
  rw [h.mem, h.pos]
  exact ⟨hnext, (h.inv.lockstep.behind.trans_eq h.pos).trans (leastAbove_gt hnext).le⟩

/-- A transition after a numbered one, not behind the data cursor if the numbered one is not. -/
theorem StandsAt.after (h : StandsAt s k u) (hj : j + 1 < s.later.length) (hd : u.dio.pos ≤ s.laterAt j) :
    u.mem.clkt.nextEdge (s.laterAt j) = some (s.laterAt (j + 1)) ∧ u.dio.pos ≤ s.laterAt (j + 1) := by
  have hnext := nextEdge_laterAt_succ h.wf hj
  rw [h.mem]
  exact ⟨hnext, hd.trans (leastAbove_gt hnext).le⟩

/-- A step is the operation its PHASE selects, after the host's turn. -/
theorem step_eq_exec {i : Instr} (h : u.phase.selects = .ok i) : step u = exec i u.hostMoved := by
  rw [step_eq, execStep_of_selects (by simpa using h)]

end

/-- Steps that take a numbered property on to the next number, taken one after another. -/
theorem run_iterate {P : Nat → State → Prop} {a : Nat} (n : Nat)
    (hstep : ∀ m u, a ≤ m → m < a + n → P m u → ∃ v, step u = .next v ∧ P (m + 1) v) {u : State} (hu : P a u) :
    ∃ v, Sys2Proof.core.run n u = .next v ∧ P (a + n) v := by
  induction n with
  | zero => exact ⟨u, run_zero u, hu⟩
  | succ n ih =>
    obtain ⟨v, hrun, hv⟩ := ih fun m u ham hmn => hstep m u ham (by omega)
    obtain ⟨w, hw, hpw⟩ := hstep (a + n) v (by omega) (by omega) hv
    exact ⟨w, by rw [run_add hrun, run_one hw], hpw⟩

/-! The acknowledge sub-frame. -/

/-- After `n` acknowledge bits, sampled at the transitions 4, 6 and 8. -/
structure AckBits (s : State) (tt : TransType) (fs : List FrameRec) (n : Nat) (u : State) : Prop where
  stands : StandsAt s (2 + 2 * n) u
  phase : u.phase = if n = 3 then .ackClose else .ack
  bitcnt : u.bitcnt = n
  ackw : u.ackw = (s.levelsFrom 4 n).foldl shiftIn 0
  substart : 0 < n → u.substart = s.laterAt 4
  frames : u.frames = fs
  tt : u.tt = tt

section
variable {s u : State} {tt : TransType} {fs : List FrameRec} {n : Nat}

theorem AckBits.step (h : AckBits s tt fs n u) (hn : n < 3) (hlen : 10 < s.later.length) :
    ∃ v, step u = .next v ∧ AckBits s tt fs (n + 1) v := by
  have hp : u.phase = .ack := by rw [h.phase, if_neg (by omega)]
  have hw := h.stands.hostMoved
  obtain ⟨hr, hdr⟩ := hw.next (by omega)
  obtain ⟨hf, hdf⟩ := hw.after (by omega : 2 + 2 * n + 1 + 1 < s.later.length) hdr
  have hlvl := (hw.inv.control.ack (by simpa using hp)).2
  have hexec := (ackStepShiftsOneSlaveSample u.hostMoved (by simp [hp])).1 _ _ hlvl hr hf hdf
  have hstep : Machine.step u = .next _ := (step_eq_exec (by rw [hp]; rfl)).trans hexec
  have hidx : 2 + 2 * n + 1 + 1 = 4 + 2 * n := by omega
  refine ⟨_, hstep, h.stands.of_step hstep (congrArg s.laterAt (by omega)), ?_, ?_, ?_, ?_, ?_, ?_⟩
  · simp only [ackSampledAt, State.hostMoved_bitcnt, h.bitcnt]
  · simp only [ackSampledAt, State.hostMoved_bitcnt, h.bitcnt]
  · simp only [ackSampledAt, State.hostMoved_ackw, State.hostMoved_mem, h.ackw, h.stands.mem, levelsFrom_succ,
      List.foldl_append, hidx]
    rfl
  · intro _
    simp only [ackSampledAt, State.hostMoved_bitcnt, State.hostMoved_substart, h.bitcnt, hidx]
    split
    · next h0 => rw [h0]
    · exact h.substart (by omega)
  · simpa [ackSampledAt] using h.frames
  · simpa [ackSampledAt] using h.tt

/-- The acknowledge is closed at transition 9. -/
theorem AckBits.close (h : AckBits s tt fs 3 u) (hlen : 10 < s.later.length) :
    ∃ v, Machine.step u = .next v ∧ StandsAt s 9 v ∧ v.phase = (if tt = .write then .turn2 else .data) ∧ v.bitcnt = 0 ∧
      v.datw = 0 ∧ v.tt = tt ∧
      v.frames = fs ++ [⟨.ack, BitVec.ofNat 64 (bitsValue (s.levelsFrom 4 3)), s.laterAt 4, s.laterAt 9, 0#8⟩] := by
  have hp : u.phase = .ackClose := h.phase
  obtain ⟨he, hd⟩ := h.stands.hostMoved.next (by omega)
  have hexec := ((ackCloseEmitsAckFrameWhateverTheValue u.hostMoved 0 (by simp [hp])).1 _ he hd).1
  have hstep : Machine.step u = .next _ := (step_eq_exec (by rw [hp]; rfl)).trans hexec
  refine ⟨_, hstep, h.stands.of_step hstep rfl, ?_, rfl, rfl, ?_, ?_⟩
  · simp [ackClosedAt, h.tt]
  · simpa [ackClosedAt] using h.tt
  · have hstart := h.substart (by omega)
    simp [ackClosedAt, h.frames, hstart, h.ackw, ← foldl_shiftIn_setWidth (levelsFrom_length s 4 3)]

end

/-! Before it: the Request and the first turnaround. -/

/-- The Request frame of the byte in the window, ending at transition 0. -/
def requestFrame (s : State) : FrameRec :=
  ⟨.request, (lowByte s).setWidth 64, s.trk.t7, s.laterAt 0, 0#8⟩

/-- From REQ_CLOSE to the first acknowledge bit: two steps, three transitions. -/
theorem run_to_ack {s : State} (hs : Inv s) (hp : s.phase = .reqClose) (hlen : 10 < s.later.length) :
    ∃ u, Sys2Proof.core.run 2 s = .next u ∧
      AckBits s (if (lowByte s).getLsbD 5 then .read else .write) (s.frames ++ [requestFrame s]) 0 u := by
  have hd := hs.lockstep.behind
  have he := nextEdge_laterAt_zero hs.coherent.wf (by omega : 0 < s.later.length)
  have hclose := ((requestCloseEmitsRequestFrame s.hostMoved 0 0 0 0 (by simp [hp])).1 (s.laterAt 0) (by simpa using he)
    (by simpa using hd.trans (leastAbove_gt he).le)).1
  have hreq : step s = .next _ := (step_eq_exec (by rw [hp]; rfl)).trans hclose
  set a := requestClosedAt s.hostMoved (s.laterAt 0) (s.hostMoved.win.extractLsb' 0 8) with ha
  have hsa : StandsAt s 0 a := ⟨step_keeps_inv hreq hs, step_mem hreq, rfl⟩
  obtain ⟨h1, hd1⟩ := hsa.hostMoved.next (by omega)
  obtain ⟨h2, hd2⟩ := hsa.hostMoved.after (by omega : 0 + 1 + 1 < s.later.length) hd1
  have hrun : a.hostMoved.Running := by simp [ha, requestClosedAt]
  have hexec := ((turnaroundStepsAdvanceThePhase a.hostMoved hrun).1 _ _ h1 h2 hd2).1
  have hturn : step a = .next _ := (step_eq_exec rfl).trans hexec
  refine ⟨_, by rw [run_succ hreq, run_one hturn], hsa.of_step hturn rfl, rfl, rfl, rfl, nofun, ?_, ?_⟩
  · simp [ha, requestClosedAt, requestFrame, lowByte]
  · simp [ha, requestClosedAt, lowByte]

/-! The data sub-frame. -/

/-- After `n` data bits, sampled at the transitions `start`, `start + 2`, .... -/
structure DataBits (s : State) (tt : TransType) (fs : List FrameRec) (start n : Nat) (u : State) : Prop where
  phase : u.phase = if n = 33 then .dataClose else .data
  bitcnt : u.bitcnt = n
  datw : u.datw = (s.levelsFrom start n).foldl shiftIn 0
  substart : 0 < n → u.substart = s.laterAt start
  frames : u.frames = fs
  tt : u.tt = tt

section
variable {s u v : State} {tt : TransType} {fs : List FrameRec} {start n k : Nat}

/-- A DATA step that samples at the next transition of the field. -/
theorem DataBits.sampled {l : Bit} {m : MarkKind} (h : DataBits s tt fs start n u) (hmem : u.mem = s.mem) :
    DataBits s tt fs start (n + 1) (dataSampledAt u.hostMoved (s.laterAt (start + 2 * n)) l m) := by
  refine ⟨?_, ?_, ?_, fun _ => ?_, ?_, ?_⟩
  · simp only [dataSampledAt, State.hostMoved_bitcnt, h.bitcnt]
  · simp only [dataSampledAt, State.hostMoved_bitcnt, h.bitcnt]
  · simp only [dataSampledAt, State.hostMoved_datw, State.hostMoved_mem, h.datw, hmem, levelsFrom_succ, List.foldl_append]
    rfl
  · simp only [dataSampledAt, State.hostMoved_bitcnt, State.hostMoved_substart, h.bitcnt]
    split
    · next h0 => rw [h0, Nat.mul_zero, Nat.add_zero]
    · exact h.substart (by omega)
  · simpa [dataSampledAt] using h.frames
  · simpa [dataSampledAt] using h.tt

/-- The first bit of a Read, entered high: two transitions to the sampling phase, then the sample. -/
theorem DataBits.step_readFirst (h : DataBits s .read fs 12 0 u) (hs : StandsAt s 9 u) (hlen : 77 < s.later.length) :
    ∃ v, step u = .next v ∧ StandsAt s 12 v ∧ DataBits s .read fs 12 1 v := by
  have hp : u.phase = .data := h.phase
  have hw := hs.hostMoved
  obtain ⟨h1, hd1⟩ := hw.next (by omega)
  obtain ⟨h2, hd2⟩ := hw.after (by omega : 9 + 1 + 1 < s.later.length) hd1
  obtain ⟨h3, hd3⟩ := hw.after (by omega : 9 + 1 + 1 + 1 < s.later.length) hd2
  have hlvl := (hw.inv.control.data (by simpa using hp)).2
  simp only [State.hostMoved_bitcnt, h.bitcnt, if_true] at hlvl
  have hexec := (dataStepSamplesOnTheDrivingSide u.hostMoved (by simp [hp])).2.1 _ _ _ (by simpa using h.tt) hlvl h1 h2 h3 hd3
  have hstep : step u = .next _ := (step_eq_exec (by rw [hp]; rfl)).trans hexec
  exact ⟨_, hstep, hs.of_step hstep rfl, h.sampled hs.mem⟩

/-- A later bit of a Read, entered low. -/
theorem DataBits.step_read (h : DataBits s .read fs 12 n u) (hs : StandsAt s (10 + 2 * n) u) (h0 : 1 ≤ n) (hn : n < 33)
    (hlen : 77 < s.later.length) :
    ∃ v, step u = .next v ∧ StandsAt s (10 + 2 * (n + 1)) v ∧ DataBits s .read fs 12 (n + 1) v := by
  have hp : u.phase = .data := by rw [h.phase, if_neg (by omega)]
  have hw := hs.hostMoved
  obtain ⟨h1, hd1⟩ := hw.next (by omega)
  obtain ⟨h2, hd2⟩ := hw.after (by omega : 10 + 2 * n + 1 + 1 < s.later.length) hd1
  have hlvl := (hw.inv.control.data (by simpa using hp)).2
  simp only [State.hostMoved_bitcnt, State.hostMoved_tt, h.bitcnt, h.tt, if_neg (by omega : n ≠ 0)] at hlvl
  have hexec := (dataStepSamplesOnTheDrivingSide u.hostMoved (by simp [hp])).1 _ _ (by simpa using h.tt) hlvl h1 h2 hd2
  have hstep : step u = .next _ := (step_eq_exec (by rw [hp]; rfl)).trans hexec
  have hidx : 10 + 2 * n + 1 + 1 = 12 + 2 * n := by omega
  rw [hidx] at hstep
  exact ⟨_, hstep, hs.of_step hstep (congrArg s.laterAt (by omega)), h.sampled hs.mem⟩

/-- A bit of a Write, entered high. -/
theorem DataBits.step_write (h : DataBits s .write fs 13 n u) (hs : StandsAt s (11 + 2 * n) u) (hn : n < 33)
    (hlen : 77 < s.later.length) :
    ∃ v, step u = .next v ∧ StandsAt s (11 + 2 * (n + 1)) v ∧ DataBits s .write fs 13 (n + 1) v := by
  have hp : u.phase = .data := by rw [h.phase, if_neg (by omega)]
  have hw := hs.hostMoved
  obtain ⟨h1, hd1⟩ := hw.next (by omega)
  obtain ⟨h2, hd2⟩ := hw.after (by omega : 11 + 2 * n + 1 + 1 < s.later.length) hd1
  have hlvl := (hw.inv.control.data (by simpa using hp)).2
  simp only [State.hostMoved_tt, h.tt, sampleLevel, ite_self] at hlvl
  have hexec := (dataStepSamplesOnTheDrivingSide u.hostMoved (by simp [hp])).2.2.2.1 _ _ (by simpa using h.tt) hlvl h1 h2 hd2
  have hstep : step u = .next _ := (step_eq_exec (by rw [hp]; rfl)).trans hexec
  have hidx : 11 + 2 * n + 1 + 1 = 13 + 2 * n := by omega
  rw [hidx] at hstep
  exact ⟨_, hstep, hs.of_step hstep (congrArg s.laterAt (by omega)), h.sampled hs.mem⟩

/-- The frame of the data sub-frame in the direction `tt`, closed at transition `e`. -/
def dataFrame (s : State) (tt : TransType) (start e : Nat) : FrameRec :=
  ⟨dataFrameType tt, BitVec.ofNat 64 (bitsValue (s.levelsFrom start 33)), s.laterAt start, s.laterAt e, 0#8⟩

/-- A Read is closed at the transition after its last bit. -/
theorem DataBits.close_read (h : DataBits s .read fs start 33 u) (hs : StandsAt s k u) (hk : k + 1 < s.later.length) :
    ∃ v, step u = .next v ∧ StandsAt s (k + 1) v ∧ v.phase = .turn3 ∧ v.frames = fs ++ [dataFrame s .read start (k + 1)] := by
  have hp : u.phase = .dataClose := h.phase
  obtain ⟨he, hd⟩ := hs.hostMoved.next hk
  have hexec := execDataClose_read (by simp [hp]) (by simpa using h.tt) he hd
  have hstep : step u = .next _ := (step_eq_exec (by rw [hp]; rfl)).trans hexec
  refine ⟨_, hstep, hs.of_step hstep rfl, rfl, ?_⟩
  have hstart := h.substart (by omega)
  simp [readClosedAt, h.frames, hstart, h.datw, dataFrame, dataFrameType,
    ← foldl_shiftIn_setWidth (levelsFrom_length s start 33)]

/-- A Write is closed at the transition after its last bit, and the scan goes on. -/
theorem DataBits.close_write (h : DataBits s .write fs start 33 u) (hs : StandsAt s k u) (hk : k + 1 < s.later.length) :
    ∃ v, step u = .next v ∧ StandsAt s (k + 1) v ∧ v.phase = .scan ∧ v.wcnt = 0 ∧ v.clk = ⟨s.laterAt (k + 1), 0#1⟩ ∧
      v.frames = fs ++ [dataFrame s .write start (k + 1)] := by
  have hp : u.phase = .dataClose := h.phase
  have hlvl := (hs.inv.control.dataClose hp).2
  rw [h.tt] at hlvl
  obtain ⟨he, hd⟩ := hs.hostMoved.next hk
  have hexec := execDataClose_write (by simp [hp]) (by simpa using h.tt) he hd
  have hstep : step u = .next _ := (step_eq_exec (by rw [hp]; rfl)).trans hexec
  refine ⟨_, hstep, hs.of_step hstep rfl, rfl, rfl, ?_, ?_⟩
  · simp [writeClosedAt, hlvl, sampleLevel]
  · have hstart := h.substart (by omega)
    simp [writeClosedAt, h.frames, hstart, h.datw, dataFrame, dataFrameType,
      ← foldl_shiftIn_setWidth (levelsFrom_length s start 33)]

/-- The second turnaround, of a Write. -/
theorem step_turn2 (hs : StandsAt s k u) (hp : u.phase = .turn2) (hk : k + 2 < s.later.length) :
    ∃ v, step u = .next v ∧ StandsAt s (k + 2) v ∧ v.phase = .data ∧ v.bitcnt = u.bitcnt ∧ v.datw = u.datw ∧ v.tt = u.tt ∧
      v.frames = u.frames := by
  obtain ⟨h1, hd1⟩ := hs.hostMoved.next (by omega)
  obtain ⟨h2, hd2⟩ := hs.hostMoved.after (by omega : k + 1 + 1 < s.later.length) hd1
  have hexec := ((turnaroundStepsAdvanceThePhase u.hostMoved (by simp [hp])).1 _ _ h1 h2 hd2).2.1
  have hstep : step u = .next _ := (step_eq_exec (by rw [hp]; rfl)).trans hexec
  exact ⟨_, hstep, hs.of_step hstep rfl, rfl, by simp, by simp, by simp, by simp⟩

/-- The third turnaround, of a Read. -/
theorem step_turn3 (hs : StandsAt s k u) (hp : u.phase = .turn3) (hk : k + 2 < s.later.length) :
    ∃ v, step u = .next v ∧ StandsAt s (k + 2) v ∧ v.phase = .scan ∧ v.wcnt = 0 ∧ v.clk = ⟨s.laterAt (k + 2), 1#1⟩ ∧
      v.frames = u.frames := by
  have hlvl := (hs.inv.control.turn3 hp).2
  obtain ⟨h1, hd1⟩ := hs.hostMoved.next (by omega)
  obtain ⟨h2, hd2⟩ := hs.hostMoved.after (by omega : k + 1 + 1 < s.later.length) hd1
  have hexec := ((turnaroundStepsAdvanceThePhase u.hostMoved (by simp [hp])).1 _ _ h1 h2 hd2).2.2.1
  have hstep : step u = .next _ := (step_eq_exec (by rw [hp]; rfl)).trans hexec
  exact ⟨_, hstep, hs.of_step hstep rfl, rfl, rfl, by simp [hlvl], by simp⟩

end

/-- The Ack frame of the three bits after `s`. -/
def ackFrame (s : State) : FrameRec :=
  ⟨.ack, BitVec.ofNat 64 (bitsValue (s.levelsFrom 4 3)), s.laterAt 4, s.laterAt 9, 0#8⟩

/-- From REQ_CLOSE to the end of the acknowledge: six steps, ten transitions. -/
theorem run_to_ackClosed {s : State} (hs : Inv s) (hp : s.phase = .reqClose) (hlen : 10 < s.later.length) :
    ∃ v, Sys2Proof.core.run 6 s = .next v ∧ StandsAt s 9 v ∧
      v.phase = (if (lowByte s).getLsbD 5 then .data else .turn2) ∧ v.bitcnt = 0 ∧ v.datw = 0 ∧
      v.tt = (if (lowByte s).getLsbD 5 then .read else .write) ∧ v.frames = s.frames ++ [requestFrame s, ackFrame s] := by
  obtain ⟨u, hu, hack⟩ := run_to_ack hs hp hlen
  obtain ⟨v, hv, hack3⟩ := run_iterate 3 (fun m w _ hm h => AckBits.step h (by omega) hlen) hack
  obtain ⟨w, hw, hstands, hphase, hcnt, hdatw, htt, hframes⟩ := AckBits.close hack3 hlen
  refine ⟨w, ?_, hstands, ?_, hcnt, hdatw, htt, ?_⟩
  · rw [run_add (k := 2) hu 4, run_add (k := 3) hv 1, run_one hw]
  · rw [hphase]
    cases (lowByte s).getLsbD 5 <;> rfl
  · rw [hframes, List.append_assoc]
    rfl

/-- Settles O50: six steps to the acknowledge, 33 data bits from transition 12, the close at 77, the third turnaround. -/
theorem readTransactionLandsAsSpecified : Obligations.ReadTransactionLandsAsSpecified := by
  intro s hs hp hbit hlen
  have hread : (lowByte s).getLsbD 5 = true := bitAt_eq_one.mp hbit
  obtain ⟨u, hu, hsu, hphase, hcnt, hdatw, htt, hframes⟩ := run_to_ackClosed hs hp (by omega)
  simp only [hread, if_true] at hphase htt
  have hbits : DataBits s .read u.frames 12 0 u := ⟨hphase, hcnt, hdatw, nofun, rfl, htt⟩
  obtain ⟨v, hv, hsv, hfirst⟩ := hbits.step_readFirst hsu (by omega)
  obtain ⟨w, hw, hsw, hlast⟩ := run_iterate (P := fun n a => StandsAt s (10 + 2 * n) a ∧ DataBits s .read u.frames 12 n a) 32
    (fun m a hm hm' h => h.2.step_read h.1 hm (by omega) (by omega)) ⟨hsv, hfirst⟩
  obtain ⟨x, hx, hsx, hpx, hfx⟩ := hlast.close_read hsw (by omega)
  obtain ⟨y, hy, hsy, hpy, hcy, hclk, hfy⟩ := step_turn3 hsx hpx (by omega)
  refine ⟨y, ?_, hsy.inv, hpy, hcy, hclk, ?_⟩
  · rw [run_add (k := 6) hu 35, run_succ hv 34, run_add (k := 32) hw 2, run_succ hx 1, run_one hy]
  · rw [hfy, hfx, hframes, List.append_assoc]
    rfl

/-- Settles O51: six steps to the acknowledge, the second turnaround, 33 data bits from transition 13, the close at 78. -/
theorem writeTransactionLandsAsSpecified : Obligations.WriteTransactionLandsAsSpecified := by
  intro s hs hp hbit hlen
  have hwrite : (lowByte s).getLsbD 5 = false := bitAt_eq_zero.mp hbit
  obtain ⟨u, hu, hsu, hphase, hcnt, hdatw, htt, hframes⟩ := run_to_ackClosed hs hp (by omega)
  simp only [hwrite, Bool.false_eq_true, if_false] at hphase htt
  obtain ⟨v, hv, hsv, hpv, hcv, hdv, htv, hfv⟩ := step_turn2 hsu hphase (by omega)
  have hbits : DataBits s .write u.frames 13 0 v := ⟨hpv, hcv.trans hcnt, hdv.trans hdatw, nofun, hfv, htv.trans htt⟩
  obtain ⟨w, hw, hsw, hlast⟩ := run_iterate (P := fun n a => StandsAt s (11 + 2 * n) a ∧ DataBits s .write u.frames 13 n a) 33
    (fun m a _ hm' h => h.2.step_write h.1 (by omega) (by omega)) ⟨hsv, hbits⟩
  obtain ⟨x, hx, hsx, hpx, hcx, hclk, hfx⟩ := hlast.close_write hsw (by omega)
  refine ⟨x, ?_, hsx.inv, hpx, hcx, hclk, ?_⟩
  · rw [run_add (k := 6) hu 35, run_succ hv 34, run_add (k := 33) hw 1, run_one hx]
  · rw [hfx, hframes, List.append_assoc]
    rfl

end Sys2Proof.Machine
end

section
/-! Onward (10_state.md sections 2, 5 and 6): no operation moves a cursor back, takes a record out of a sink, or makes the host's
move for it. -/

namespace Sys2Proof.Machine

section
variable {P : State → Prop} {adv op : State → Ran} {f : State → State}

/-- A composite preserves what its two ways to end preserve. -/
theorem Composite.preserves (hadv : Composite adv) (hdone : ∀ s c ms, P s → Reaches s c → P (s.advancedTo c ms))
    (hraised : ∀ s c, P s → Exhausts s c → P (s.setClk c)) : Preserves P adv := by
  intro s hs
  cases hr : adv s with
  | done t =>
    obtain ⟨c, ms, hc, rfl⟩ := hadv.done hr
    exact hdone s c ms hs hc
  | raised t =>
    obtain ⟨c, hc, rfl⟩ := hadv.raised hr
    exact hraised s c hs hc
  | refused x => trivial

end

/-- `t` is further on than `s`: cursors not moved back, sinks grown, the host's moment kept, and STOPREQ kept, or set at its moment
where the operation lets the host move. -/
structure Onward (host : Prop) (s t : State) : Prop where
  clk : s.clk.pos ≤ t.clk.pos
  dio : s.dio.pos ≤ t.dio.pos
  frames : s.frames <+: t.frames
  marks : s.marks <+: t.marks
  stopAt : t.stopAt = s.stopAt
  stopreq : t.stopreq = s.stopreq ∨ host ∧ t.stopreq = true ∧ ∃ p, s.stopAt = some p ∧ p ≤ t.clk.pos

/-- Register and sink writes that keep the cursors and what is the host's, and only append to the sinks. -/
structure AppendsOnly (f : State → State) : Prop where
  clk : ∀ s, (f s).clk = s.clk
  dio : ∀ s, (f s).dio = s.dio
  frames : ∀ s, s.frames <+: (f s).frames
  marks : ∀ s, s.marks <+: (f s).marks
  stopAt : ∀ s, (f s).stopAt = s.stopAt
  stopreq : ∀ s, (f s).stopreq = s.stopreq

section
variable {host : Prop} {s t : State} {f : State → State} {adv : State → Ran}

theorem Onward.refl (host : Prop) (s : State) : Onward host s s :=
  ⟨le_rfl, le_rfl, List.prefix_rfl, List.prefix_rfl, rfl, .inl rfl⟩

/-- Further on still, with what is the host's kept. -/
theorem Onward.of_later {u : State} (h : Onward host s t) (hclk : t.clk.pos ≤ u.clk.pos) (hdio : t.dio.pos ≤ u.dio.pos)
    (hframes : t.frames <+: u.frames) (hmarks : t.marks <+: u.marks) (hat : u.stopAt = t.stopAt)
    (hreq : u.stopreq = t.stopreq) : Onward host s u where
  clk := h.clk.trans hclk
  dio := h.dio.trans hdio
  frames := h.frames.trans hframes
  marks := h.marks.trans hmarks
  stopAt := hat.trans h.stopAt
  stopreq := by
    rw [hreq]
    exact h.stopreq.imp_right fun ⟨hhost, hset, p, hp, hle⟩ => ⟨hhost, hset, p, hp, hle.trans hclk⟩

theorem Onward.write (h : Onward host s t) (hf : AppendsOnly f) : Onward host s (f t) :=
  h.of_later (hf.clk t ▸ le_rfl) (hf.dio t ▸ le_rfl) (hf.frames t) (hf.marks t) (hf.stopAt t) (hf.stopreq t)

theorem Onward.halt (h : Onward host s t) (c : HCause) : Onward host s (t.halt c) :=
  h.of_later le_rfl le_rfl List.prefix_rfl List.prefix_rfl rfl rfl

/-- The host's turn, where the operation has one. -/
theorem Onward.hostMoved (h : Onward True s t) : Onward True s t.hostMoved where
  clk := by simpa using h.clk
  dio := by simpa using h.dio
  frames := by simpa using h.frames
  marks := by simpa using h.marks
  stopAt := by simpa using h.stopAt
  stopreq := by
    by_cases hdue : t.stopDue = true
    · obtain ⟨p, hp, hle⟩ := t.stopDue_iff.mp hdue
      exact .inr ⟨trivial, by simp [hdue], p, h.stopAt ▸ hp, by simpa using hle⟩
    · simpa [hdue] using h.stopreq

/-- An operation that goes onward from whatever state it is run in. -/
def GoesOnward (host : Prop) (op : State → Ran) : Prop :=
  ∀ s, Preserves (Onward host s) op

theorem Composite.goesOnward (hadv : Composite adv) : GoesOnward host adv := by
  refine fun s => hadv.preserves (fun t c ms ht hc => ?_) fun t c ht hc => ?_
  · exact ht.of_later hc.later.le hc.data List.prefix_rfl (List.prefix_append ..) rfl rfl
  · exact ht.of_later hc.path.le le_rfl List.prefix_rfl List.prefix_rfl rfl rfl

theorem AppendsOnly.goesOnward (hf : AppendsOnly f) : GoesOnward host (pureOp f) :=
  fun _ => preserves_pureOp fun _ ht => ht.write hf

theorem GoesOnward.andThen {op k : State → Ran} (hop : GoesOnward host op) (hk : GoesOnward host k) :
    GoesOnward host fun s => (op s).andThen k :=
  fun s => (hop s).andThen (hk s)

/-- An operation whose parameters are read from the state it is run in. -/
theorem goesOnward_of_forall {α : Type} {op : α → State → Ran} (g : State → α) (hop : ∀ a, GoesOnward host (op a)) :
    GoesOnward host fun s => op (g s) s :=
  fun s t ht => hop (g t) s t ht

theorem GoesOnward.runOp_next {op : State → Ran} (hop : GoesOnward host op) (h : runOp op s = .next t) : Onward host s t :=
  (hop s).runOp_next (fun _ ha => ha.halt _) (.refl host s) h

end

/-! The writes. -/

theorem setAckw_appendsOnly (v : BitVec 3) : AppendsOnly fun s => s.setAckw v := by constructor <;> simp
theorem setDatw_appendsOnly (v : BitVec 33) : AppendsOnly fun s => s.setDatw v := by constructor <;> simp
theorem winClear_appendsOnly : AppendsOnly winClear := by constructor <;> simp [winClear_eq]
theorem pushSample_appendsOnly : AppendsOnly pushSample := by constructor <;> simp [pushSample, winPush_eq]
theorem afterScan_appendsOnly : AppendsOnly afterScan := by constructor <;> simp [afterScan_eq]
theorem closeReset_appendsOnly (b : Byte) : AppendsOnly (closeReset b) := by constructor <;> simp [closeReset_eq]
theorem closeRequest_appendsOnly (b : Byte) : AppendsOnly (closeRequest b) := by constructor <;> simp [closeRequest_eq]
theorem closeAck_appendsOnly (v : BitVec 3) : AppendsOnly (closeAck v) := by constructor <;> simp [closeAck_eq]
theorem closeData_appendsOnly (tt : TransType) (v : BitVec 33) : AppendsOnly (closeData tt v) := by
  constructor <;> simp [closeData_eq]
theorem afterAckBit_appendsOnly (first : Bool) : AppendsOnly (afterAckBit first) := by constructor <;> simp [afterAckBit_eq]
theorem afterDataBit_appendsOnly (first : Bool) : AppendsOnly (afterDataBit first) := by
  constructor <;> simp [afterDataBit_eq]

theorem ackSampleWrites_appendsOnly (first : Bool) : AppendsOnly fun a => subShift .ackw a.dio.lvl (noteStart first a) := by
  constructor <;> simp [subShift, noteStart_eq]
theorem dataSampleWrites_appendsOnly (first : Bool) :
    AppendsOnly fun a => subShift .datw a.dio.lvl ((noteStart first a).setParpos a.clk.pos) := by
  constructor <;> simp [subShift, noteStart_eq]

/-- A write whose parameter is read from the state. -/
theorem appendsOnly_of_forall {α : Type} {f : α → State → State} (g : State → α) (hf : ∀ v, AppendsOnly (f v)) :
    AppendsOnly fun s => f (g s) s :=
  ⟨fun s => (hf (g s)).clk s, fun s => (hf (g s)).dio s, fun s => (hf (g s)).frames s, fun s => (hf (g s)).marks s,
    fun s => (hf (g s)).stopAt s, fun s => (hf (g s)).stopreq s⟩

/-- PHASE and the transaction's registers are neither cursors, nor sinks, nor the host's. -/
theorem AppendsOnly.setPhase {f : State → State} (hf : AppendsOnly f) (p : Phase) : AppendsOnly fun s => (f s).setPhase p := by
  constructor <;> simp [hf.clk, hf.dio, hf.frames, hf.marks, hf.stopAt, hf.stopreq]

/-! The operations. -/

section
variable {host : Prop}

theorem nextEdgeOp_goesOnward : GoesOnward host nextEdgeOp := by
  intro o s hs
  unfold nextEdgeOp
  split
  · exact hs
  · next e he => exact hs.of_later (leastAbove_gt he).le le_rfl List.prefix_rfl List.prefix_rfl rfl rfl

theorem gotoAbsOp_goesOnward (i : Nat) : GoesOnward host (gotoAbsOp i) := by
  intro o s hs
  unfold gotoAbsOp
  split
  · trivial
  · next hi => exact hs.of_later le_rfl (Nat.not_lt.mp hi) List.prefix_rfl List.prefix_rfl rfl rfl

theorem scanOp_goesOnward : GoesOnward host scanOp := by
  intro o s hs
  unfold scanOp
  split
  · exact hs.halt _
  · exact advMasterOp_composite.goesOnward.andThen afterScan_appendsOnly.goesOnward o s hs

theorem resetCloseOp_goesOnward (b : Byte) : GoesOnward host (resetCloseOp b) :=
  advEdgeOp_composite.goesOnward.andThen ((closeReset_appendsOnly b).setPhase .scan).goesOnward

theorem reqCloseOp_goesOnward (b : Byte) : GoesOnward host (reqCloseOp b) :=
  advEdgeOp_composite.goesOnward.andThen ((closeRequest_appendsOnly b).setPhase .turn1).goesOnward

theorem turn1Op_goesOnward : GoesOnward host turn1Op :=
  advTurnOp_composite.goesOnward.andThen
    (AppendsOnly.goesOnward (f := fun a => ((a.setAckw 0#3).setBitcnt 0).setPhase .ack) (by constructor <;> simp))

theorem ackOp_goesOnward : GoesOnward host ackOp := by
  intro o s hs
  rw [ackOp_eq]
  exact advSlaveOp_composite.goesOnward.andThen (afterAckBit_appendsOnly _).goesOnward o s hs

theorem ackCloseOp_goesOnward (v : BitVec 3) : GoesOnward host (ackCloseOp v) :=
  advEdgeOp_composite.goesOnward.andThen (AppendsOnly.goesOnward (by constructor <;> simp [closeAck_eq]))

theorem turn2Op_goesOnward : GoesOnward host turn2Op :=
  advTurnOp_composite.goesOnward.andThen
    (AppendsOnly.goesOnward (f := fun a => a.setPhase .data) (by constructor <;> simp))

theorem dataOp_goesOnward : GoesOnward host dataOp := by
  intro o s hs
  rw [dataOp_eq]
  exact (advData_composite s.tt).goesOnward.andThen (afterDataBit_appendsOnly _).goesOnward o s hs

theorem dataCloseOp_goesOnward (tt : TransType) (v : BitVec 33) : GoesOnward host (dataCloseOp tt v) := by
  cases tt
  · exact advEdgeOp_composite.goesOnward.andThen
      (AppendsOnly.goesOnward (f := fun a => (winClear (closeData .write v a)).setPhase .scan)
        (by constructor <;> simp [closeData_eq, winClear_eq]))
  · exact advEdgeOp_composite.goesOnward.andThen ((closeData_appendsOnly .read v).setPhase .turn3).goesOnward

theorem turn3Op_goesOnward : GoesOnward host turn3Op :=
  advTurnOp_composite.goesOnward.andThen (winClear_appendsOnly.setPhase .scan).goesOnward

/-! The big-step forms. -/

theorem ackSample_goesOnward (first : Bool) : GoesOnward host (ackSample first) :=
  advSlaveOp_composite.goesOnward.andThen (ackSampleWrites_appendsOnly first).goesOnward

theorem dataSample_goesOnward (first : Bool) : GoesOnward host (dataSample first) :=
  fun o s hs => (advData_composite s.tt).goesOnward.andThen (dataSampleWrites_appendsOnly first).goesOnward o s hs

theorem turnIf_goesOnward (t : TransType) : GoesOnward host (turnIf t) := by
  intro o s hs
  unfold turnIf
  split
  · exact advTurnOp_composite.goesOnward o s hs
  · exact hs

theorem dispatchOp_goesOnward : GoesOnward host dispatchOp := fun o =>
  (advTurnOp_composite.goesOnward o).andThen fun _ ha =>
  (preserves_forFrom (fun _ => ackSample_goesOnward _ o) _ _ _ (ha.write (setAckw_appendsOnly 0#3))).andThen <|
  (advEdgeOp_composite.goesOnward o).andThen fun c hc =>
  (turnIf_goesOnward .write o _ (hc.write (closeAck_appendsOnly c.ackw))).andThen fun _ hd =>
  (preserves_forFrom (fun _ => dataSample_goesOnward _ o) _ _ _ (hd.write (setDatw_appendsOnly 0#33))).andThen <|
  (advEdgeOp_composite.goesOnward o).andThen fun f hf =>
  turnIf_goesOnward .read o _ (hf.write (closeData_appendsOnly f.tt f.datw))

/-- What a pass of DECODE does once the sample is in the window. -/
def decodeMatched (s : State) : Ran :=
  if matchReset s then (advEdgeOp s).andThen (pureOp fun b => closeReset (lowByte b) b)
  else if matchRequest s then
    (advEdgeOp s).andThen fun b => (dispatchOp (closeRequest (lowByte b) b)).andThen (pureOp winClear)
  else .done s

theorem decodePass_eq (s : State) : decodePass s = ((advMasterOp s).andThen (pureOp pushSample)).andThen decodeMatched := by
  rw [Ran.andThen_assoc]
  rfl

theorem decodeMatched_goesOnward : GoesOnward host decodeMatched := by
  intro o s hs
  unfold decodeMatched
  split
  · exact (advEdgeOp_composite.goesOnward o _ hs).andThen fun b hb => hb.write (closeReset_appendsOnly (lowByte b))
  · split
    · exact (advEdgeOp_composite.goesOnward o _ hs).andThen fun b hb =>
        (dispatchOp_goesOnward o _ (hb.write (closeRequest_appendsOnly (lowByte b)))).andThen
          (winClear_appendsOnly.goesOnward o)
    · exact hs

theorem decodePass_goesOnward : GoesOnward host decodePass := by
  intro o s hs
  rw [decodePass_eq]
  exact (advMasterOp_composite.goesOnward.andThen pushSample_appendsOnly.goesOnward).andThen decodeMatched_goesOnward o s hs

theorem decodeOp_goesOnward : GoesOnward True decodeOp :=
  fun o s => preserves_decodeLoop (fun _ ha => ha.hostMoved) (fun _ ha => ha.halt _) (decodePass_goesOnward o) _ s

end

/-- An operation that is one write. -/
theorem onward_of_write {host : Prop} {f : State → State} {s t : State} (h : runOp (pureOp f) s = .next t)
    (hf : AppendsOnly f) : Onward host s t :=
  hf.goesOnward.runOp_next h

/-- Every operation but STEP goes onward, and only DECODE has turns of the host in it. -/
theorem exec_onward_of_ne_step {host : Prop} {i : Instr} {s t : State} (hi : i ≠ .step) (hd : i = .decode → host)
    (h : exec i s = .next t) : Onward host s t := by
  have hret : ∀ g : State → Ret, AppendsOnly fun a => a.setRet (g a) := fun g => by constructor <;> simp
  cases i with
  | step => exact absurd rfl hi
  | decode =>
    have hhost : host = True := eq_true (hd rfl)
    exact hhost ▸ decodeOp_goesOnward.runOp_next h
  | reset => exact (resetCloseOp_goesOnward _).runOp_next h
  | requestR | requestW => exact (reqCloseOp_goesOnward _).runOp_next h
  | ackOk | ackWait | ackFault | ackOther => exact (ackCloseOp_goesOnward _).runOp_next h
  | dataR | dataW => exact (dataCloseOp_goesOnward _ _).runOp_next h
  | turn | advTurn => exact advTurnOp_composite.goesOnward.runOp_next h
  | nextEdge => exact nextEdgeOp_goesOnward.runOp_next h
  | gotoAbs => exact (gotoAbsOp_goesOnward _).runOp_next h
  | advMaster =>
    exact (advMasterOp_composite.goesOnward.andThen (hret fun a => .index a.clk.pos).goesOnward).runOp_next h
  | advSlave =>
    exact (advSlaveOp_composite.goesOnward.andThen (hret fun a => .index a.clk.pos).goesOnward).runOp_next h
  | advEdge => exact advEdgeOp_composite.goesOnward.runOp_next h
  | level | matchReset | matchRequest | parity => exact onward_of_write h (hret _)
  | noframe => exact onward_of_write h (by constructor <;> simp)
  | frame | mark | prog | markOp | reportProgress => exact onward_of_write h (by constructor <;> simp)
  | emitFrame => exact onward_of_write h (by constructor <;> simp [emit_eq])
  | winPush => exact onward_of_write h (by constructor <;> simp [winPush_eq])
  | winClear => exact onward_of_write h winClear_appendsOnly
  | subShift x b => exact onward_of_write h (by cases x <;> constructor <;> simp [subShift])
  | scan => exact scanOp_goesOnward.runOp_next h
  | resetClose => exact (goesOnward_of_forall lowByte resetCloseOp_goesOnward).runOp_next h
  | reqClose => exact (goesOnward_of_forall lowByte reqCloseOp_goesOnward).runOp_next h
  | turn1 => exact turn1Op_goesOnward.runOp_next h
  | ack => exact ackOp_goesOnward.runOp_next h
  | ackClose => exact (goesOnward_of_forall State.ackw ackCloseOp_goesOnward).runOp_next h
  | turn2 => exact turn2Op_goesOnward.runOp_next h
  | data => exact dataOp_goesOnward.runOp_next h
  | dataClose =>
    exact (goesOnward_of_forall State.datw fun v => goesOnward_of_forall State.tt fun tt => dataCloseOp_goesOnward tt v).runOp_next
      h
  | turn3 => exact turn3Op_goesOnward.runOp_next h
  | dispatch => exact dispatchOp_goesOnward.runOp_next h

/-- The operation a PHASE selects is neither STEP nor DECODE. -/
theorem selects_ne {p : Phase} {i : Instr} (h : p.selects = .ok i) : i ≠ .step ∧ i ≠ .decode := by
  cases p <;> cases h <;> exact ⟨nofun, nofun⟩

/-- Every operation goes onward: STEP is one of the others. -/
theorem exec_onward {i : Instr} {s t : State} (h : exec i s = .next t) : Onward (i = .decode) s t := by
  by_cases hi : i = .step
  · subst hi
    cases hsel : s.phase.selects with
    | ok j =>
      obtain ⟨hstep, hdecode⟩ := selects_ne hsel
      have hexec : execStep s = .next t := h
      rw [execStep_of_selects hsel] at hexec
      exact exec_onward_of_ne_step hstep (fun hj => absurd hj hdecode) hexec
    | error x =>
      have hp : s.phase = .halted := by cases hp : s.phase <;> rw [hp] at hsel <;> cases hsel
      have hexec : execStep s = .next t := h
      rw [execStep_halted hp] at hexec
      cases hexec
  · exact exec_onward_of_ne_step hi id h

/-- Settles O38: every operation goes onward, part by part of its pseudocode; DISPATCH and DECODE by induction on their loops. -/
theorem cursorsAdvanceAndSinksOnlyGrow : Obligations.CursorsAdvanceAndSinksOnlyGrow := by
  intro i s t h
  obtain ⟨hclk, hdio, hframes, hmarks, hat, hreq⟩ := exec_onward h
  exact ⟨hclk, hdio, hframes, hmarks, hat, hreq⟩

end Sys2Proof.Machine
end

section
/-! The big-step forms complete (42_scan_reset_request.md R178, R179; 43_transaction.md R201): DECODE ends halted, and DISPATCH emits
its two frames where the clock has enough transitions left. -/

namespace Sys2Proof.Machine

/-! How an operation ends. -/

section
variable {D E R S : State → Prop} {r : Ran} {k : State → Ran} {adv : State → Ran} {s : State}

/-- The operation is not refused; where it ends `D` holds, and where it raises `R`. -/
def Ran.Ends (D R : State → Prop) : Ran → Prop
  | .done t => D t
  | .raised t => R t
  | .refused _ => False

theorem Ran.Ends.andThen (h : r.Ends D R) (hk : ∀ a, D a → (k a).Ends E R) : (r.andThen k).Ends E R := by
  cases r with
  | done a => exact hk a h
  | raised a => exact h
  | refused x => exact h

theorem Ran.Ends.write {f : State → State} (h : r.Ends D R) (hf : ∀ a, D a → E (f a)) :
    (r.andThen (pureOp f)).Ends E R :=
  h.andThen hf

theorem Ran.Ends.imp (h : r.Ends D R) (hD : ∀ a, D a → E a) (hR : ∀ a, R a → S a) : r.Ends E S := by
  cases r with
  | done a => exact hD a h
  | raised a => exact hR a h
  | refused x => exact h

/-- How it ends, together with what it preserves. -/
theorem Ran.Ends.and_all {P : State → Prop} (h : r.Ends D R) (hP : r.All P) :
    r.Ends (fun a => D a ∧ P a) (fun a => R a ∧ P a) := by
  cases r with
  | done a => exact ⟨h, hP⟩
  | raised a => exact ⟨h, hP⟩
  | refused x => exact h

theorem forFrom_ends {body : Nat → State → Ran} (hbody : ∀ k s, D s → (body k s).Ends D R) (k n : Nat) (hs : D s) :
    (forFrom body k n s).Ends D R := by
  induction n generalizing k s with
  | zero => exact hs
  | succ n ih => exact (hbody k s hs).andThen fun a ha => ih (k + 1) ha

/-- The cursors are at one index. -/
def Meets (s : State) : Prop :=
  s.dio.pos = s.clk.pos

/-- The clock has no transition left. -/
def Ended (s : State) : Prop :=
  s.mem.clkt.nextEdge s.clk.pos = none

/-- A composite ends with the cursors at one index, or raises at the last transition. -/
theorem Composite.ends (hadv : Composite adv) (hs : s.dio.pos ≤ s.clk.pos) : (adv s).Ends Meets Ended := by
  have hforward := hadv.forward s hs
  cases hr : adv s with
  | done t =>
    obtain ⟨c, ms, -, rfl⟩ := hadv.done hr
    exact rfl
  | raised t =>
    obtain ⟨c, hc, rfl⟩ := hadv.raised hr
    exact hc.ended
  | refused x =>
    rw [hr] at hforward
    exact hforward

end

/-! DECODE. -/

section
variable {s : State}

theorem turnIf_ends (t : TransType) (hs : Meets s) : (turnIf t s).Ends Meets Ended := by
  unfold turnIf
  split
  · exact advTurnOp_composite.ends hs.le
  · exact hs

theorem ackSample_ends (first : Bool) (hs : Meets s) : (ackSample first s).Ends Meets Ended :=
  (advSlaveOp_composite.ends hs.le).andThen fun a ha => by simpa [Ran.Ends, Meets, subShift, noteStart_eq] using ha

theorem dataSample_ends (first : Bool) (hs : Meets s) : (dataSample first s).Ends Meets Ended :=
  ((advData_composite s.tt).ends hs.le).andThen fun a ha => by simpa [Ran.Ends, Meets, subShift, noteStart_eq] using ha

theorem dispatchOp_ends (hs : s.dio.pos ≤ s.clk.pos) : (dispatchOp s).Ends Meets Ended :=
  (advTurnOp_composite.ends hs).andThen fun a ha =>
  (forFrom_ends (fun _ _ hx => ackSample_ends _ hx) 0 3 (s := a.setAckw 0#3) ha).andThen fun b hb =>
  (advEdgeOp_composite.ends hb.le).andThen fun c hc =>
  (turnIf_ends .write (s := closeAck c.ackw c) hc).andThen fun d hd =>
  (forFrom_ends (fun _ _ hx => dataSample_ends _ hx) 0 33 (s := d.setDatw 0#33) hd).andThen fun e he =>
  (advEdgeOp_composite.ends he.le).andThen fun f hf =>
  turnIf_ends .read (by simpa [Meets, closeData_eq] using hf)

theorem decodeMatched_ends (hs : Meets s) : (decodeMatched s).Ends Meets Ended := by
  unfold decodeMatched
  split
  · exact (advEdgeOp_composite.ends hs.le).write fun _ hb => hb
  · split
    · exact (advEdgeOp_composite.ends hs.le).andThen fun b hb =>
        (dispatchOp_ends (by simpa [closeRequest_eq] using hb.le)).write fun _ hc => hc
    · exact hs

theorem scanSample_ends (hs : s.dio.pos ≤ s.clk.pos) : ((advMasterOp s).andThen (pureOp pushSample)).Ends Meets Ended :=
  (advMasterOp_composite.ends hs).write fun _ ha => ha

theorem countAbove_anti {p q : Nat} (h : p ≤ q) (l : List Nat) : countAbove q l ≤ countAbove p l := by
  induction l with
  | nil => exact le_rfl
  | cons a l ih =>
    simp only [countAbove]
    split <;> split <;> omega

/-- The sample of a pass takes a transition, and the rest of the pass gives none back. -/
theorem decodePass_remaining_lt {t : State} (h : decodePass s = .done t) : t.remaining < s.remaining := by
  have hmem := decodePass_keepsTraces (m := s.mem) s rfl
  rw [h] at hmem
  rw [decodePass_eq] at h
  obtain ⟨p, hp, hrest⟩ := Ran.andThen_eq_done.mp h
  have honward := decodeMatched_goesOnward (host := False) p p (Onward.refl False p)
  rw [hrest] at honward
  obtain ⟨a, ha, hpush⟩ := Ran.andThen_eq_done.mp hp
  obtain ⟨e, he, rfl⟩ := advMasterOp_done ha
  cases hpush
  have hle := countAbove_anti honward.clk s.mem.clkt.edges
  rw [State.remaining, hmem]
  exact hle.trans_lt (he.remaining_lt (ms := []))

/-- One pass of DECODE: it ends in lockstep with fewer transitions ahead, or raises at the last one, and leaves STOPREQ alone. -/
theorem decodePass_ends (hs : s.dio.pos ≤ s.clk.pos) :
    (decodePass s).Ends (fun a => Meets a ∧ a.remaining < s.remaining ∧ a.stopreq = s.stopreq)
      (fun u => Ended u ∧ u.stopreq = s.stopreq) := by
  have hends : (decodePass s).Ends Meets Ended := by
    rw [decodePass_eq]
    exact (scanSample_ends hs).andThen fun _ ha => decodeMatched_ends ha
  have hreq : (decodePass s).All fun t => t.stopreq = s.stopreq := by
    have honward := decodePass_goesOnward (host := False) s s (Onward.refl False s)
    cases hr : decodePass s with
    | done t => rw [hr] at honward; simpa [Ran.All] using honward.stopreq
    | raised t => rw [hr] at honward; simpa [Ran.All] using honward.stopreq
    | refused x => trivial
  have hboth := hends.and_all hreq
  cases hr : decodePass s with
  | done t =>
    rw [hr] at hboth
    exact ⟨hboth.1, decodePass_remaining_lt hr, hboth.2⟩
  | raised t => rw [hr] at hboth; exact hboth
  | refused x => rw [hr] at hboth; exact hboth

/-- A stop honoured in lockstep. -/
def StoppedInLockstep (t : State) : Prop :=
  t.phase = .halted ∧ t.hcause = .stopped ∧ t.stopreq = true ∧ Meets t

/-- The fuel is not used up: the loop ends with an honoured stop, or raises at the last transition before any (R179). -/
theorem decodeLoop_ends {n : Nat} (hs : Meets s) (hn : s.remaining < n) :
    (decodeLoop n s).Ends StoppedInLockstep fun u => Ended u ∧ u.stopreq = false := by
  induction n generalizing s with
  | zero => omega
  | succ n ih =>
    have hm : Meets s.hostMoved := by simpa [Meets] using hs
    rw [decodeLoop]
    split
    · next hreq => exact ⟨rfl, rfl, hreq, hm⟩
    · next hreq =>
      have hfalse := Bool.eq_false_of_not_eq_true hreq
      have hremaining : s.hostMoved.remaining = s.remaining := by simp [State.remaining]
      refine ((decodePass_ends hm.le).imp (fun _ ha => ha) fun u hu => ⟨hu.1, hu.2.trans hfalse⟩).andThen fun a ha => ?_
      exact ih ha.1 (by have := ha.2.1; omega)

end

/-- Settles O53: the first pass needs the data cursor not ahead, the others start in lockstep; what the loop keeps is said by O37 and
O38. -/
theorem decodeEndsHalted : Obligations.DecodeEndsHalted := by
  refine fun s hr hd => ⟨fun hreq => ?_, fun hreq => ?_⟩
  · refine runOp_next_of_done hr ?_
    rw [decodeOp, decodeLoop, if_pos hreq]
    rfl
  · have hfirst : decodeOp s = (decodePass s.hostMoved).andThen (decodeLoop s.remaining) := by
      rw [decodeOp, decodeLoop, if_neg (by rw [hreq]; exact Bool.false_ne_true)]
    have hremaining : s.hostMoved.remaining = s.remaining := by simp [State.remaining]
    have hends : (decodeOp s).Ends StoppedInLockstep fun u => Ended u ∧ u.stopreq = false := by
      rw [hfirst]
      refine ((decodePass_ends (by simpa using hd)).imp (fun _ ha => ha) fun u hu => ⟨hu.1, hu.2.trans hreq⟩).andThen
        fun a ha => decodeLoop_ends ha.1 (hremaining ▸ ha.2.1)
    have hsreq : s.stopreq = false := by
      rw [State.hostMoved_stopreq, Bool.or_eq_false_iff] at hreq
      exact hreq.1
    cases hop : decodeOp s with
    | done t =>
      rw [hop] at hends
      obtain ⟨hphase, hcause, hset, hmeets⟩ := hends
      have hexec : exec .decode s = .next t := runOp_next_of_done hr hop
      obtain ⟨hclk, -, -, -, -, hstop⟩ := exec_onward hexec
      have hdue : ∃ p, s.stopAt = some p ∧ p ≤ t.clk.pos := by
        rcases hstop with hsame | ⟨-, -, hdue⟩
        · rw [hset, hsreq] at hsame
          cases hsame
        · exact hdue
      refine ⟨t, hexec, hphase, hclk, exec_mem hexec, .inl ⟨hcause, hset, hmeets, hdue⟩, fun hnever => ?_⟩
      obtain ⟨p, hp, -⟩ := hdue
      rw [hnever] at hp
      cases hp
    | raised u =>
      rw [hop] at hends
      obtain ⟨hended, hclear⟩ := hends
      have hexec : exec .decode s = .next (u.halt .traceExhausted) := runOp_eq_next.mpr ⟨hr, .inr ⟨u, hop, rfl⟩⟩
      have hmem : u.mem = s.mem := exec_mem (t := u.halt .traceExhausted) hexec
      exact ⟨_, hexec, rfl, (exec_onward hexec).clk, hmem, .inr ⟨rfl, hclear, hmem ▸ hended⟩, fun _ => rfl⟩
    | refused x =>
      rw [hop] at hends
      exact hends.elim

end Sys2Proof.Machine
end

section
/-! DISPATCH with enough transitions ahead (43_transaction.md R201): what its parts take of the clock, from the 80 it can need. -/

namespace Sys2Proof.Machine

/-! What a composite takes of the clock. -/

theorem State.lt_laterAt {u : State} {k : Nat} (hk : k < u.later.length) : u.clk.pos < u.laterAt k := by
  rw [State.laterAt, List.getD_eq_getElem _ _ hk]
  exact of_decide_eq_true (List.mem_filter.mp (List.getElem_mem hk)).2

/-- Where composites complete: canonical traces, the data cursor not ahead, and `n` transitions ahead. -/
structure Supplied (n : Nat) (u : State) : Prop where
  wf : u.mem.wf
  behind : u.dio.pos ≤ u.clk.pos
  ahead : n ≤ u.later.length

/-- `v` is `u` advanced by at most `n` transitions to a clock level `l`. -/
structure Advanced (n : Nat) (l : Bit) (u v : State) : Prop where
  advanced : ∃ c ms, Reaches u c ∧ v = u.advancedTo c ms
  lvl : v.clk.lvl = l
  taken : u.later.length ≤ v.later.length + n

section
variable {u v : State} {n k : Nat} {l : Bit} {adv : State → Ran}

theorem Advanced.mono (h : Advanced n l u v) (hn : n ≤ k) : Advanced k l u v :=
  ⟨h.advanced, h.lvl, h.taken.trans (by omega)⟩

theorem Supplied.next (h : Supplied (k + 1) u) :
    u.mem.clkt.nextEdge u.clk.pos = some (u.laterAt 0) ∧ u.dio.pos ≤ u.laterAt k := by
  have hlen := h.ahead
  exact ⟨nextEdge_laterAt_zero h.wf (by omega), h.behind.trans (State.lt_laterAt (by omega)).le⟩

theorem Supplied.after (h : Supplied n u) (hk : k + 1 < n) :
    u.mem.clkt.nextEdge (u.laterAt k) = some (u.laterAt (k + 1)) :=
  nextEdge_laterAt_succ h.wf (hk.trans_le h.ahead)

/-- A composite that completes at transition `k` has taken `k + 1`. -/
theorem Composite.advanced (hadv : Composite adv) (hu : Supplied (k + 1) u) (h : adv u = .done v)
    (hclk : v.clk = ⟨u.laterAt k, l⟩) : Advanced (k + 1) l u v := by
  obtain ⟨c, ms, hc, rfl⟩ := hadv.done h
  refine ⟨⟨c, ms, hc, rfl⟩, by rw [hclk], ?_⟩
  have hahead : (u.advancedTo c ms).later = u.later.drop (k + 1) := by
    rw [← laterAt_ahead hu.wf hu.ahead, State.later_eq_ahead, hclk, State.advancedTo_mem]
  rw [hahead, List.length_drop]
  omega

theorem advEdgeOp_advanced (hu : Supplied 1 u) : ∃ v, advEdgeOp u = .done v ∧ Advanced 1 (u.clk.lvl ^^^ 1#1) u v := by
  obtain ⟨ha, hd⟩ := hu.next (k := 0)
  exact ⟨_, advEdgeOp_next ha hd, advEdgeOp_composite.advanced (k := 0) hu (advEdgeOp_next ha hd) rfl⟩

theorem advTurnOp_advanced (hu : Supplied 2 u) : ∃ v, advTurnOp u = .done v ∧ Advanced 2 u.clk.lvl u v := by
  obtain ⟨ha, hd⟩ := hu.next (k := 1)
  have hdone := advTurnOp_next ha (hu.after (by omega)) hd
  exact ⟨_, hdone, advTurnOp_composite.advanced (k := 1) hu hdone rfl⟩

theorem advMasterOp_advanced (hu : Supplied 2 u) : ∃ v, advMasterOp u = .done v ∧ Advanced 2 1#1 u v := by
  rcases BitVec.eq_zero_or_eq_one u.clk.lvl with hl | hl
  · have hu1 : Supplied 1 u := ⟨hu.wf, hu.behind, by have := hu.ahead; omega⟩
    obtain ⟨ha, hd⟩ := hu1.next (k := 0)
    have hdone := advMasterOp_low hl ha hd
    exact ⟨_, hdone, (advMasterOp_composite.advanced (k := 0) hu1 hdone rfl).mono (by omega)⟩
  · obtain ⟨ha, hd⟩ := hu.next (k := 1)
    have hdone := advMasterOp_high hl ha (hu.after (by omega)) hd
    exact ⟨_, hdone, advMasterOp_composite.advanced (k := 1) hu hdone rfl⟩

theorem advSlaveOp_advanced_of_low (hu : Supplied 2 u) (hl : u.clk.lvl = 0#1) :
    ∃ v, advSlaveOp u = .done v ∧ Advanced 2 0#1 u v := by
  obtain ⟨ha, hd⟩ := hu.next (k := 1)
  have hdone := advSlaveOp_low hl ha (hu.after (by omega)) hd
  exact ⟨_, hdone, advSlaveOp_composite.advanced (k := 1) hu hdone rfl⟩

theorem advSlaveOp_advanced (hu : Supplied 3 u) : ∃ v, advSlaveOp u = .done v ∧ Advanced 3 0#1 u v := by
  rcases BitVec.eq_zero_or_eq_one u.clk.lvl with hl | hl
  · obtain ⟨v, hv, hadv⟩ := advSlaveOp_advanced_of_low ⟨hu.wf, hu.behind, by have := hu.ahead; omega⟩ hl
    exact ⟨v, hv, hadv.mono (by omega)⟩
  · obtain ⟨ha, hd⟩ := hu.next (k := 2)
    have hdone := advSlaveOp_high hl ha (hu.after (by omega)) (hu.after (by omega)) hd
    exact ⟨_, hdone, advSlaveOp_composite.advanced (k := 2) hu hdone rfl⟩

/-- A sampling composite takes at most three transitions, and two where it is entered at its own level. -/
structure Sampling (l : Bit) (adv : State → Ran) : Prop where
  composite : Composite adv
  first : ∀ {u}, Supplied 3 u → ∃ v, adv u = .done v ∧ Advanced 3 l u v
  next : ∀ {u}, Supplied 2 u → u.clk.lvl = l → ∃ v, adv u = .done v ∧ Advanced 2 l u v

theorem advSlaveOp_sampling : Sampling 0#1 advSlaveOp :=
  ⟨advSlaveOp_composite, advSlaveOp_advanced, advSlaveOp_advanced_of_low⟩

theorem advMasterOp_sampling : Sampling 1#1 advMasterOp where
  composite := advMasterOp_composite
  first hu := by
    obtain ⟨v, hv, hadv⟩ := advMasterOp_advanced ⟨hu.wf, hu.behind, by have := hu.ahead; omega⟩
    exact ⟨v, hv, hadv.mono (by omega)⟩
  next hu _ := advMasterOp_advanced hu

theorem advData_sampling : (tt : TransType) → Sampling (sampleLevel tt) (advData tt)
  | .read => advSlaveOp_sampling
  | .write => advMasterOp_sampling

end

/-! What DISPATCH keeps. -/

/-- The part of the state DISPATCH does not name (R201; log 11). -/
def State.dispatchKept (s : State) :=
  (s.phase, s.bitcnt, s.win, s.wcnt, s.trk, s.tt, s.hcause, s.stopreq, s.stopAt, s.ret, s.mem)

section
variable {s u v : State}

theorem preserves_dispatchKept_of_composite {adv : State → Ran} (hadv : Composite adv) :
    Preserves (fun t => t.dispatchKept = s.dispatchKept) adv :=
  hadv.preserves (fun _ _ _ h _ => h) fun _ _ h _ => h

theorem preserves_dispatchKept_of_write {f : State → State} (hf : ∀ a, (f a).dispatchKept = a.dispatchKept) :
    Preserves (fun t => t.dispatchKept = s.dispatchKept) (pureOp f) :=
  preserves_pureOp fun a h => (hf a).trans h

theorem ackSampleWrites_dispatchKept (first : Bool) (a : State) :
    (subShift .ackw a.dio.lvl (noteStart first a)).dispatchKept = a.dispatchKept := by
  rw [noteStart_eq]
  rfl

theorem dataSampleWrites_dispatchKept (first : Bool) (a : State) :
    (subShift .datw a.dio.lvl ((noteStart first a).setParpos a.clk.pos)).dispatchKept = a.dispatchKept := by
  rw [noteStart_eq]
  rfl

theorem closeData_dispatchKept (tt : TransType) (v : BitVec 33) (a : State) :
    (closeData tt v a).dispatchKept = a.dispatchKept := by
  rw [closeData_eq]
  rfl

theorem turnIf_keeps (t : TransType) : Preserves (fun a => a.dispatchKept = s.dispatchKept) (turnIf t) := by
  intro u hu
  unfold turnIf
  split
  · exact preserves_dispatchKept_of_composite advTurnOp_composite u hu
  · exact hu

theorem ackSample_keeps (first : Bool) : Preserves (fun a => a.dispatchKept = s.dispatchKept) (ackSample first) :=
  (preserves_dispatchKept_of_composite advSlaveOp_composite).andThen
    (preserves_dispatchKept_of_write (ackSampleWrites_dispatchKept first))

theorem dataSample_keeps (first : Bool) : Preserves (fun a => a.dispatchKept = s.dispatchKept) (dataSample first) :=
  fun u => (preserves_dispatchKept_of_composite (advData_composite u.tt)).andThen
    (preserves_dispatchKept_of_write (dataSampleWrites_dispatchKept first)) u

theorem dispatchOp_keeps : Preserves (fun a => a.dispatchKept = s.dispatchKept) dispatchOp :=
  (preserves_dispatchKept_of_composite advTurnOp_composite).andThen fun a ha =>
  (preserves_forFrom (fun _ => ackSample_keeps _) 0 3 (a.setAckw 0#3) ha).andThen <|
  (preserves_dispatchKept_of_composite advEdgeOp_composite).andThen fun c hc =>
  (turnIf_keeps .write (closeAck c.ackw c) hc).andThen fun d hd =>
  (preserves_forFrom (fun _ => dataSample_keeps _) 0 33 (d.setDatw 0#33) hd).andThen <|
  (preserves_dispatchKept_of_composite advEdgeOp_composite).andThen fun f hf =>
  turnIf_keeps .read _ ((closeData_dispatchKept f.tt f.datw f).trans hf)

end

/-! The two sub-frames of DISPATCH. -/

/-- Between two sub-frames: `n` transitions ahead, the frames so far, and the clock at `p` or later. -/
structure Between (tt : TransType) (fs : List FrameRec) (p n : Nat) (u : State) : Prop where
  supplied : Supplied n u
  tt : u.tt = tt
  frames : u.frames = fs
  reached : p ≤ u.clk.pos

/-- In a sub-frame whose samples leave the clock at level `l`: its first sample was taken after `p`. -/
structure InField (tt : TransType) (fs : List FrameRec) (p n : Nat) (l : Bit) (u : State) : Prop where
  between : Between tt fs p n u
  lvl : u.clk.lvl = l
  started : p < u.substart
  sampled : u.substart ≤ u.clk.pos

/-- The writes of one sample: SUBSTART if it is the first, and nothing outside the sub-frame's registers. -/
structure NotesStart (first : Bool) (f : State → State) : Prop where
  mem : ∀ a, (f a).mem = a.mem
  clk : ∀ a, (f a).clk = a.clk
  dio : ∀ a, (f a).dio = a.dio
  tt : ∀ a, (f a).tt = a.tt
  frames : ∀ a, (f a).frames = a.frames
  substart : ∀ a, (f a).substart = if first then a.clk.pos else a.substart

section
variable {tt : TransType} {fs : List FrameRec} {p n k m : Nat} {l : Bit} {u v : State} {f : State → State}
  {adv : State → Ran}

theorem Between.advance (h : Between tt fs p (n + k) u) (hv : Advanced k l u v) :
    Between tt fs p n v ∧ p < v.clk.pos ∧ v.substart = u.substart := by
  obtain ⟨c, ms, hc, rfl⟩ := hv.advanced
  have hlater : p < c.pos := h.reached.trans_lt hc.later
  have hahead := h.supplied.ahead
  exact ⟨⟨⟨h.supplied.wf, le_rfl, by have := hv.taken; omega⟩, h.tt, h.frames, hlater.le⟩, hlater, rfl⟩

theorem Between.mono (h : Between tt fs p n u) (hk : k ≤ n) : Between tt fs p k u :=
  ⟨⟨h.supplied.wf, h.supplied.behind, hk.trans h.supplied.ahead⟩, h.tt, h.frames, h.reached⟩

/-- Writes of other registers. -/
theorem Between.write (h : Between tt fs p n u) (hmem : (f u).mem = u.mem) (hclk : (f u).clk = u.clk)
    (hdio : (f u).dio = u.dio) (htt : (f u).tt = u.tt) {gs : List FrameRec} (hframes : (f u).frames = gs) :
    Between tt gs p n (f u) := by
  refine ⟨⟨hmem ▸ h.supplied.wf, ?_, ?_⟩, htt.trans h.tt, hframes, hclk ▸ h.reached⟩
  · rw [hdio, hclk]
    exact h.supplied.behind
  · rw [State.later_eq_ahead, hmem, hclk]
    exact h.supplied.ahead

theorem NotesStart.between {first : Bool} (hf : NotesStart first f) (h : Between tt fs p n u) : Between tt fs p n (f u) :=
  h.write (hf.mem u) (hf.clk u) (hf.dio u) (hf.tt u) ((hf.frames u).trans h.frames)

/-- The first sample, entered at either level. -/
theorem sample_first (hadv : Sampling l adv) (hf : NotesStart true f) (h : Between tt fs p (n + 3) u) :
    ∃ v, (adv u).andThen (pureOp f) = .done v ∧ InField tt fs p n l v := by
  obtain ⟨v, hv, hadvanced⟩ := hadv.first (h.mono (by omega : 3 ≤ n + 3)).supplied
  obtain ⟨hbetween, hlater, -⟩ := h.advance hadvanced
  refine ⟨f v, by rw [hv]; rfl, hf.between hbetween, ?_, ?_, ?_⟩
  · rw [hf.clk, hadvanced.lvl]
  · simpa [hf.substart] using hlater
  · simp [hf.substart, hf.clk]

/-- A later sample, entered at the level the one before it left. -/
theorem sample_next (hadv : Sampling l adv) (hf : NotesStart false f) (h : InField tt fs p (n + 2) l u) :
    ∃ v, (adv u).andThen (pureOp f) = .done v ∧ InField tt fs p n l v := by
  obtain ⟨v, hv, hadvanced⟩ := hadv.next (h.between.mono (by omega : 2 ≤ n + 2)).supplied h.lvl
  obtain ⟨hbetween, -, hsub⟩ := h.between.advance hadvanced
  obtain ⟨c, ms, hc, rfl⟩ := hadvanced.advanced
  refine ⟨f _, by rw [hv]; rfl, hf.between hbetween, ?_, ?_, ?_⟩
  · rw [hf.clk, hadvanced.lvl]
  · simpa [hf.substart, hsub] using h.started
  · simpa [hf.substart, hf.clk] using h.sampled.trans hc.later.le

/-- A loop of samples of one direction. -/
structure SampleLoop (tt : TransType) (l : Bit) (adv : State → Ran) (f : Bool → State → State) (body : Nat → State → Ran) :
    Prop where
  sampling : Sampling l adv
  writes : ∀ first, NotesStart first (f first)
  body : ∀ k u, u.tt = tt → body k u = (adv u).andThen (pureOp (f (decide (k = 0))))

theorem SampleLoop.rest {g : Bool → State → State} {body : Nat → State → Ran} (hloop : SampleLoop tt l adv g body)
    (hk : k ≠ 0) (h : InField tt fs p (n + 2 * m) l u) : ∃ v, forFrom body k m u = .done v ∧ InField tt fs p n l v := by
  induction m generalizing k u with
  | zero => exact ⟨u, rfl, h⟩
  | succ m ih =>
    obtain ⟨v, hv, hfield⟩ := sample_next hloop.sampling (hloop.writes false) (n := n + 2 * m) h
    obtain ⟨w, hw, hend⟩ := ih (Nat.succ_ne_zero k) hfield
    refine ⟨w, ?_, hend⟩
    rw [forFrom, hloop.body k u h.between.tt, decide_eq_false hk, hv]
    exact hw

/-- A whole sub-frame of `m + 1` bits takes at most `2 * m + 3` transitions. -/
theorem SampleLoop.field {g : Bool → State → State} {body : Nat → State → Ran} (hloop : SampleLoop tt l adv g body)
    (h : Between tt fs p (n + 2 * m + 3) u) : ∃ v, forFrom body 0 (m + 1) u = .done v ∧ InField tt fs p n l v := by
  obtain ⟨v, hv, hfield⟩ := sample_first hloop.sampling (hloop.writes true) h
  obtain ⟨w, hw, hend⟩ := hloop.rest (k := 1) one_ne_zero hfield
  refine ⟨w, ?_, hend⟩
  rw [forFrom, hloop.body 0 u h.tt, decide_eq_true rfl, hv]
  exact hw

theorem ackSample_loop : SampleLoop tt 0#1 advSlaveOp (fun first a => subShift .ackw a.dio.lvl (noteStart first a))
    fun k => ackSample (decide (k = 0)) where
  sampling := advSlaveOp_sampling
  writes first := by constructor <;> simp [subShift, noteStart_eq]
  body _ _ _ := rfl

theorem dataSample_loop : SampleLoop tt (sampleLevel tt) (advData tt)
    (fun first a => subShift .datw a.dio.lvl ((noteStart first a).setParpos a.clk.pos))
    fun k => dataSample (decide (k = 0)) where
  sampling := advData_sampling tt
  writes first := by constructor <;> simp [subShift, noteStart_eq]
  body k u h := by
    subst h
    rfl

/-- The closing edge of a sub-frame. -/
theorem InField.close (h : InField tt fs p (n + 1) l u) :
    ∃ c, advEdgeOp u = .done c ∧ Between tt fs c.clk.pos n c ∧ p < c.substart ∧ c.substart ≤ c.clk.pos := by
  obtain ⟨v, hv, hadvanced⟩ := advEdgeOp_advanced (h.between.mono (by omega : 1 ≤ n + 1)).supplied
  obtain ⟨hbetween, -, hsub⟩ := h.between.advance hadvanced
  obtain ⟨c, ms, hc, rfl⟩ := hadvanced.advanced
  exact ⟨_, hv, ⟨hbetween.supplied, hbetween.tt, hbetween.frames, le_rfl⟩, hsub ▸ h.started, h.sampled.trans hc.later.le⟩

/-- The turnaround of one direction takes two transitions, and none in the other. -/
theorem turnIf_between {t : TransType} (h : Between tt fs p (n + if tt = t then 2 else 0) u) :
    ∃ v, turnIf t u = .done v ∧ Between tt fs p n v ∧ v.progress = u.progress := by
  unfold turnIf
  rw [h.tt]
  split
  · next ht =>
    rw [if_pos ht] at h
    obtain ⟨v, hv, hadvanced⟩ := advTurnOp_advanced (h.mono (by omega : 2 ≤ n + 2)).supplied
    have hbetween := (h.advance hadvanced).1
    obtain ⟨c, ms, -, rfl⟩ := hadvanced.advanced
    exact ⟨_, hv, hbetween, rfl⟩
  · next ht =>
    rw [if_neg ht] at h
    exact ⟨u, rfl, h, rfl⟩

/-- DISPATCH up to the end of its acknowledge sub-frame: turnaround, three bits and the closing edge take at most ten
transitions, the second turnaround two more. -/
theorem dispatch_ack (h : Between tt fs p 80 u) :
    ∃ a b c d, advTurnOp u = .done a ∧ forFrom (fun k => ackSample (decide (k = 0))) 0 3 (a.setAckw 0#3) = .done b ∧
      advEdgeOp b = .done c ∧ turnIf .write (closeAck c.ackw c) = .done d ∧ p < c.substart ∧ c.substart ≤ c.clk.pos ∧
      Between tt (fs ++ [⟨.ack, c.ackw.setWidth 64, c.substart, c.clk.pos, 0#8⟩]) c.clk.pos
        (68 + if tt = .read then 2 else 0) d := by
  obtain ⟨a, ha, hturn⟩ := advTurnOp_advanced (h.mono (by omega : 2 ≤ 80)).supplied
  have hafter := (h.advance (n := 78) hturn).1
  have hclear := hafter.write (f := fun s => s.setAckw 0#3) rfl rfl rfl rfl hafter.frames
  obtain ⟨b, hb, hfield⟩ := ackSample_loop.field (n := 71) (m := 2) hclear
  obtain ⟨c, hc, hend, hstart, hsampled⟩ := hfield.close
  have hframe := hend.write (f := closeAck c.ackw) rfl rfl rfl rfl (congrArg (· ++ _) hend.frames)
  obtain ⟨d, hd, hlast, -⟩ := turnIf_between (t := .write) (n := 68 + if tt = .read then 2 else 0)
    (hframe.mono (by cases tt <;> decide))
  exact ⟨a, b, c, d, ha, hb, hc, hd, hstart, hsampled, hlast⟩

/-- DISPATCH from there on: 33 bits, the closing edge, and after a Read the third turnaround. -/
theorem dispatch_data (h : Between tt fs p (68 + if tt = .read then 2 else 0) u) :
    ∃ e f t, forFrom (fun k => dataSample (decide (k = 0))) 0 33 (u.setDatw 0#33) = .done e ∧ advEdgeOp e = .done f ∧
      turnIf .read (closeData f.tt f.datw f) = .done t ∧ p < f.substart ∧ f.substart ≤ f.clk.pos ∧
      t.progress = some f.clk.pos ∧ f.clk.pos ≤ t.clk.pos ∧
      t.frames = fs ++ [⟨dataFrameType tt, f.datw.setWidth 64, f.substart, f.clk.pos, 0#8⟩] := by
  have hclear := (h.write (f := fun s => s.setDatw 0#33) rfl rfl rfl rfl h.frames).mono
    (by omega : (if tt = .read then 2 else 0) + 1 + 2 * 32 + 3 ≤ _)
  obtain ⟨e, he, hfield⟩ := dataSample_loop.field (m := 32) hclear
  obtain ⟨f, hf, hend, hstart, hsampled⟩ := hfield.close
  have hframe := hend.write (f := closeData f.tt f.datw) (by simp) (by simp [closeData_eq]) (by simp [closeData_eq])
    (by simp [closeData_eq]) (gs := fs ++ [⟨dataFrameType tt, f.datw.setWidth 64, f.substart, f.clk.pos, 0#8⟩])
    (by simp [closeData_eq, hend.tt, hend.frames])
  obtain ⟨t, ht, hlast, hprogress⟩ := turnIf_between (t := .read) (n := 0) (hframe.mono (by omega))
  exact ⟨e, f, t, he, hf, ht, hstart, hsampled, hprogress.trans (by simp [closeData_eq]), hlast.reached,
    hlast.frames⟩

end

/-- Settles O52: 80 transitions are enough for the parts of DISPATCH, from either level and in either direction. -/
theorem dispatchEmitsAckAndDataFrame : Obligations.DispatchEmitsAckAndDataFrame := by
  intro s hr hw hd hlen
  obtain ⟨a, b, c, d, ha, hb, hc, hturn2, hstart, hsampled, hack⟩ :=
    dispatch_ack (p := s.clk.pos) ⟨⟨hw, hd, hlen⟩, rfl, rfl, le_rfl⟩
  obtain ⟨e, f, t, he, hf, ht, hstart', hsampled', hprogress, hreached, hframes⟩ := dispatch_data hack
  have hdone : dispatchOp s = .done t := by
    rw [dispatchOp, ha, Ran.done_andThen, hb, Ran.done_andThen, hc, Ran.done_andThen, hturn2, Ran.done_andThen, he,
      Ran.done_andThen, hf, Ran.done_andThen, ht]
  have hkept := dispatchOp_keeps (s := s) s rfl
  have hmeets := dispatchOp_ends hd
  rw [hdone] at hkept hmeets
  refine ⟨t, _, _, runOp_next_of_done hr hdone, hframes.trans (List.append_assoc ..), rfl, ?_, hsampled, hstart', hsampled',
    hstart, hreached, hmeets, hprogress, hkept⟩
  cases s.tt <;> rfl

end Sys2Proof.Machine
end

section
/-! DECODE and the iterated step (42_scan_reset_request.md section 6; logs 11, 17): a run follows the big-step form part by part,
one step for each composite. -/

namespace Sys2Proof.Machine

/-! The big-step form keeps PHASE, BITCNT and DATW out of step, and sees the host's move later. -/

/-- The state with other values of the four registers in which the two forms may differ. -/
def State.masked (n : Nat) (w : BitVec 33) (p : Phase) (b : Bool) (s : State) : State :=
  { s with bitcnt := n, datw := w, phase := p, stopreq := b }

/-- The state without them. -/
def State.veiled (s : State) : State :=
  s.masked 0 0#33 .scan false

theorem veiled_unread : Unread State.veiled :=
  ⟨fun _ => rfl, fun _ => rfl, fun _ => rfl, fun _ _ => rfl, fun _ _ => rfl, fun _ _ => rfl⟩

/-- The run's state `s` and the big-step form's state `d` agree, the host's turn included. -/
structure Tracks (s d : State) : Prop where
  veiled : s.veiled = d.veiled
  host : s.hostMoved.stopreq = d.hostMoved.stopreq

/-- How a run ends as the big-step form does. -/
def EndsAs (u t : State) : Prop :=
  u.phase = .halted ∧ t.phase = .halted ∧ Tracks u t

section
variable {s d a e x y : State} {f g : State → State}

theorem eq_masked_of_veiled (h : a.veiled = e.veiled) : e = a.masked e.bitcnt e.datw e.phase e.stopreq := by
  cases a
  cases e
  simp_all [State.veiled, State.masked]

@[simp] theorem State.hostMoved_veiled (s : State) : s.hostMoved.veiled = s.veiled := by
  rw [State.hostMoved_eq]
  rfl

theorem Tracks.refl (s : State) : Tracks s s := ⟨rfl, rfl⟩

theorem Tracks.symm (h : Tracks s d) : Tracks d s := ⟨h.veiled.symm, h.host.symm⟩
theorem Tracks.clk (h : Tracks s d) : s.clk = d.clk := (congrArg State.clk h.veiled :)
theorem Tracks.tt (h : Tracks s d) : s.tt = d.tt := (congrArg State.tt h.veiled :)
theorem Tracks.stopAt (h : Tracks s d) : s.stopAt = d.stopAt := (congrArg State.stopAt h.veiled :)

/-- The host's move is due in both or in neither. -/
theorem stopDue_congr (hat : s.stopAt = d.stopAt) (hclk : s.clk = d.clk) : s.stopDue = d.stopDue := by
  rw [State.stopDue, State.stopDue, hat, hclk]

/-- A move that is due stays due. -/
theorem stopDue_of_later (hat : y.stopAt = d.stopAt) (hle : d.clk.pos ≤ y.clk.pos) (h : d.stopDue = true) : y.stopDue = true := by
  obtain ⟨p, hp, hpos⟩ := d.stopDue_iff.mp h
  exact y.stopDue_iff.mpr ⟨p, hat.trans hp, hpos.trans hle⟩

/-- The host's turn in the run. -/
theorem Tracks.hostMoved_left (h : Tracks s d) : Tracks s.hostMoved d := by
  refine ⟨(State.hostMoved_veiled s).trans h.veiled, ?_⟩
  have hdue : s.hostMoved.stopDue = s.stopDue := stopDue_congr (State.hostMoved_stopAt s) (State.hostMoved_clk s)
  rw [State.hostMoved_stopreq, hdue, ← h.host, State.hostMoved_stopreq, Bool.or_assoc, Bool.or_self]

/-- The host's turn in the big-step form. -/
theorem Tracks.hostMoved_right (h : Tracks s d) : Tracks s d.hostMoved := h.symm.hostMoved_left.symm

/-- Both go on, neither making the host's move. -/
theorem Tracks.later (h : Tracks s d) (hsame : x.veiled = y.veiled) (hx : x.stopreq = s.stopreq) (hy : y.stopreq = d.stopreq)
    (hat : y.stopAt = d.stopAt) (hle : d.clk.pos ≤ y.clk.pos) : Tracks x y := by
  refine ⟨hsame, ?_⟩
  have hxy : x.stopDue = y.stopDue := stopDue_congr (congrArg State.stopAt hsame :) (congrArg State.clk hsame :)
  have hhost := h.host
  rw [State.hostMoved_stopreq, State.hostMoved_stopreq, stopDue_congr h.stopAt h.clk] at hhost
  rw [State.hostMoved_stopreq, State.hostMoved_stopreq, hxy, hx, hy]
  by_cases hdue : d.stopDue = true
  · simp [stopDue_of_later hat hle hdue]
  · rw [Bool.eq_false_of_not_eq_true hdue, Bool.or_false, Bool.or_false] at hhost
    rw [hhost]

theorem Tracks.write (h : Tracks a e) (hf : AppendsOnly f) (hg : AppendsOnly g) (hsame : (f a).veiled = (g e).veiled) :
    Tracks (f a) (g e) :=
  h.later hsame (hf.stopreq a) (hg.stopreq e) (hg.stopAt e) (hg.clk e ▸ le_rfl)

theorem Tracks.halt (h : Tracks s d) (c : HCause) : EndsAs (s.halt c) (d.halt c) :=
  ⟨rfl, rfl, h.later (congrArg (fun x => (x.halt c).veiled) h.veiled :) rfl rfl rfl le_rfl⟩

/-- After the host's turn they differ in BITCNT and DATW alone. -/
theorem EndsAs.eq (h : EndsAs s d) :
    { d.hostMoved with bitcnt := 0, datw := 0#33 } = ({ s.hostMoved with bitcnt := 0, datw := 0#33 } : State) := by
  obtain ⟨hs, hd, htracks⟩ := h
  have hsame := eq_masked_of_veiled (a := s.hostMoved) (e := d.hostMoved) (by simpa using htracks.veiled)
  rw [hsame, State.masked, ← htracks.host, State.hostMoved_phase, hd, ← hs, ← State.hostMoved_phase]

end

/-! A run follows an operation. -/

section
variable {Q R : State → State → Prop} {r : Ran} {k : State → Ran} {s d u : State}

/-- From `s` a run comes to a state that stands by `Q` to what the operation leaves, or halts as the operation does. -/
def Follows (s : State) (Q : State → State → Prop) : Ran → Prop
  | .done d => ∃ n u, Sys2Proof.core.run n s = .next u ∧ Q u d
  | .raised d => ∃ n u, Sys2Proof.core.run n s = .next u ∧ EndsAs u (d.halt .traceExhausted)
  | .refused _ => False

theorem Follows.of_run {n : Nat} (h : Sys2Proof.core.run n s = .next u) (hr : Follows u Q r) : Follows s Q r := by
  cases r with
  | done d =>
    obtain ⟨m, v, hrun, hv⟩ := hr
    exact ⟨n + m, v, (run_add h m).trans hrun, hv⟩
  | raised d =>
    obtain ⟨m, v, hrun, hv⟩ := hr
    exact ⟨n + m, v, (run_add h m).trans hrun, hv⟩
  | refused x => exact hr

theorem Follows.andThen (h : Follows s Q r) (hk : ∀ u d, r = .done d → Q u d → Follows u R (k d)) :
    Follows s R (r.andThen k) := by
  cases r with
  | done d =>
    obtain ⟨n, u, hrun, hu⟩ := h
    exact Follows.of_run hrun (hk u d rfl hu)
  | raised d => exact h
  | refused x => exact h

theorem follows_done (h : Q s d) : Follows s Q (.done d) :=
  ⟨0, s, run_zero s, h⟩

/-- The operation and the run end alike. -/
theorem Follows.outcome (h : Follows s EndsAs r) :
    ∃ t u n, r.outcome = .next t ∧ Sys2Proof.core.run n s = .next u ∧ EndsAs u t := by
  cases r with
  | done d =>
    obtain ⟨n, u, hrun, hu⟩ := h
    exact ⟨d, u, n, rfl, hrun, hu⟩
  | raised d =>
    obtain ⟨n, u, hrun, hu⟩ := h
    exact ⟨_, u, n, rfl, hrun, hu⟩
  | refused x => exact h.elim

end

/-! One step for each composite. -/

/-- The run is in PHASE `p`, beside the big-step form with its cursors at one index. -/
structure Enters (p : Phase) (s d : State) : Prop where
  phase : s.phase = p
  tracks : Tracks s d
  meets : Meets d

/-- What a composite, run in both, leaves of `s` in `a` and of `d` in `e`. -/
structure Arrives (s d a e : State) : Prop where
  phase : a.phase = s.phase
  bitcnt : a.bitcnt = s.bitcnt
  datw : a.datw = s.datw
  datw_big : e.datw = d.datw
  tt_big : e.tt = d.tt
  tracks : Tracks a e
  meets : Meets e

section
variable {Q : State → State → Prop} {s d a e : State} {p q : Phase} {f g : State → State} {adv : State → Ran}

/-- Both composites complete, or both raise. -/
theorem Composite.arrives (hadv : Composite adv) (h : Tracks s d) (hd : Meets d) :
    (∃ a e, adv s = .done a ∧ adv d = .done e ∧ Arrives s d a e) ∨
      ∃ a e, adv s = .raised a ∧ adv d = .raised e ∧ Tracks a e := by
  have hsame : (adv s).map State.veiled = (adv d).map State.veiled := by
    rw [← hadv.commutes veiled_unread s, ← hadv.commutes veiled_unread d, h.veiled]
  have hends := hadv.ends hd.le
  cases hrs : adv s with
  | done a =>
    cases hrd : adv d with
    | done e =>
      rw [hrs, hrd] at hsame
      rw [hrd] at hends
      have hveiled : a.veiled = e.veiled := Ran.done.inj hsame
      obtain ⟨c, ms, -, rfl⟩ := hadv.done hrs
      obtain ⟨c', ms', hc', rfl⟩ := hadv.done hrd
      exact .inl ⟨_, _, rfl, rfl, rfl, rfl, rfl, rfl, rfl, h.later hveiled rfl rfl rfl hc'.path.le, hends⟩
    | raised e => rw [hrs, hrd] at hsame; cases hsame
    | refused x => rw [hrs, hrd] at hsame; cases hsame
  | raised a =>
    cases hrd : adv d with
    | done e => rw [hrs, hrd] at hsame; cases hsame
    | raised e =>
      rw [hrs, hrd] at hsame
      have hveiled : a.veiled = e.veiled := Ran.raised.inj hsame
      obtain ⟨c, -, rfl⟩ := hadv.raised hrs
      obtain ⟨c', hc', rfl⟩ := hadv.raised hrd
      exact .inr ⟨_, _, rfl, rfl, h.later hveiled rfl rfl rfl hc'.path.le⟩
    | refused x => rw [hrs, hrd] at hsame; cases hsame
  | refused x =>
    cases hrd : adv d with
    | done e => rw [hrs, hrd] at hsame; cases hsame
    | raised e => rw [hrs, hrd] at hsame; cases hsame
    | refused y =>
      rw [hrd] at hends
      exact hends.elim

/-- A step of the run follows a composite and its writes. -/
theorem follows_step (h : Enters p s d) (hp : p ≠ .halted) (hstop : p = .scan → s.hostMoved.stopreq = false)
    (hQ : ∀ a e, a.phase = p → Arrives s d a e → Q (stepWrites a) (g e)) :
    Follows s Q ((phaseComposite p s.tt d).andThen (pureOp g)) := by
  obtain ⟨rfl, htracks, hmeets⟩ := h
  have hadv := phaseComposite_spec s.phase s.tt
  have hnext : ∀ t, ((∃ a, phaseComposite s.phase s.tt s.hostMoved = .done a ∧ t = stepWrites a) ∨
      ∃ u, phaseComposite s.phase s.tt s.hostMoved = .raised u ∧ t = u.halt .traceExhausted) →
      Sys2Proof.core.run 1 s = .next t := by
    intro t ht
    refine run_one ?_
    rw [step_eq]
    refine execStep_eq_next.mpr (.inr ⟨by simpa using hp, fun hx => ?_, by simpa using ht⟩)
    rw [hstop (by simpa using hx.1)] at hx
    exact Bool.false_ne_true hx.2
  rcases hadv.arrives htracks.hostMoved_left hmeets with ⟨a, e, ha, he, harrives⟩ | ⟨a, e, ha, he, hae⟩
  · rw [he]
    refine ⟨1, _, hnext _ (.inl ⟨a, ha, rfl⟩), hQ a e ?_ ?_⟩
    · simpa using harrives.phase
    · obtain ⟨hphase, hcnt, hdatw, hbig, htt, htrack, hmeet⟩ := harrives
      exact ⟨by simpa using hphase, by simpa using hcnt, by simpa using hdatw, hbig, htt, htrack, hmeet⟩
  · rw [he]
    exact ⟨1, _, hnext _ (.inr ⟨a, ha, rfl⟩), hae.halt _⟩

/-- Writes that come to the same, whatever the four registers of the big-step form hold but DATW. -/
theorem Arrives.enters (h : Arrives s d a e) (hf : AppendsOnly f) (hg : AppendsOnly g)
    (hsame : ∀ n p b, (f a).veiled = (g (a.masked n d.datw p b)).veiled) (hphase : (f a).phase = q) :
    Enters q (f a) (g e) := by
  have hveiled : (f a).veiled = (g e).veiled := by
    rw [eq_masked_of_veiled h.tracks.veiled, h.datw_big]
    exact hsame _ _ _
  refine ⟨hphase, h.tracks.write hf hg hveiled, ?_⟩
  rw [Meets, hg.dio, hg.clk]
  exact h.meets

end

end Sys2Proof.Machine
end

section
/-! The parts of DISPATCH and DECODE followed by steps, and the two forms equal at their ends (42_scan_reset_request.md section 6,
43_transaction.md section 2). -/

namespace Sys2Proof.Machine

/-- After `k` data bits: the run and the big-step form have shifted the same bits. -/
structure DataAt (k : Nat) (s d : State) : Prop where
  enters : Enters (if k = 33 then .dataClose else .data) s d
  bitcnt : s.bitcnt = k
  datw : s.datw = d.datw

section
variable {s d : State} {k m : Nat}

/-- TURN1 and the first turnaround of DISPATCH. -/
theorem follows_turn1 (h : Enters .turn1 s d) :
    Follows s (fun u e => Enters .ack u e ∧ u.bitcnt = 0) ((advTurnOp d).andThen (pureOp fun a => a.setAckw 0#3)) := by
  refine follows_step h nofun nofun fun a e ha hae => ?_
  rw [stepWrites, ha]
  refine ⟨hae.enters (f := fun a => ((a.setAckw 0#3).setBitcnt 0).setPhase .ack) (by constructor <;> simp)
    (setAckw_appendsOnly 0#3) (fun _ _ _ => rfl) rfl, rfl⟩

/-- ACK and one acknowledge bit of DISPATCH. -/
theorem follows_ackSample (h : Enters .ack s d) (hk : s.bitcnt = k) :
    Follows s (fun u e => Enters (if k + 1 = 3 then .ackClose else .ack) u e ∧ u.bitcnt = k + 1)
      (ackSample (decide (k = 0)) d) := by
  refine follows_step h nofun nofun fun a e ha hae => ?_
  have hcnt : a.bitcnt = k := hae.bitcnt.trans hk
  rw [stepWrites, ha, hcnt]
  refine ⟨hae.enters (afterAckBit_appendsOnly _) (ackSampleWrites_appendsOnly _) (fun _ _ _ => ?_) ?_, ?_⟩
  · simp only [afterAckBit_eq, noteStart_eq]
    rfl
  · simp only [afterAckBit_eq, hcnt]
  · simp only [afterAckBit_eq, hcnt]

theorem follows_acks (h : Enters (if k = 3 then .ackClose else .ack) s d) (hk : s.bitcnt = k) (hm : k + m = 3) :
    Follows s (Enters .ackClose) (forFrom (fun k => ackSample (decide (k = 0))) k m d) := by
  induction m generalizing k s d with
  | zero => exact follows_done (by rwa [if_pos (by omega)] at h)
  | succ m ih =>
    rw [if_neg (by omega)] at h
    exact (follows_ackSample h hk).andThen fun u e _ hu => ih hu.1 hu.2 (by omega)

/-- ACK_CLOSE and the Ack frame of DISPATCH. -/
theorem follows_ackClose (h : Enters .ackClose s d) :
    Follows s (fun u e => Enters (if e.tt = .write then .turn2 else .data) u e ∧ u.bitcnt = 0 ∧ u.datw = 0#33)
      ((advEdgeOp d).andThen (pureOp fun c => closeAck c.ackw c)) := by
  refine follows_step h nofun nofun fun a e ha hae => ?_
  have htt : e.tt = a.tt := hae.tracks.tt.symm
  rw [stepWrites, ha]
  have hf : AppendsOnly fun a : State =>
      (((closeAck a.ackw a).setDatw 0#33).setBitcnt 0).setPhase (if a.tt = .write then .turn2 else .data) := by
    constructor <;> simp [closeAck_eq]
  have hg := appendsOnly_of_forall State.ackw closeAck_appendsOnly
  refine ⟨hae.enters (g := fun c => closeAck c.ackw c) hf hg (fun _ _ _ => rfl) ?_, rfl, rfl⟩
  simp [closeAck_eq, htt]

/-- TURN2 and the second turnaround of DISPATCH; then its DATW is cleared too. -/
theorem follows_turn2 (h : Enters (if d.tt = .write then .turn2 else .data) s d) (hcnt : s.bitcnt = 0) (hdatw : s.datw = 0#33) :
    Follows s (DataAt 0) ((turnIf .write d).andThen (pureOp fun d => d.setDatw 0#33)) := by
  unfold turnIf
  by_cases ht : d.tt = .write
  · rw [if_pos ht] at h ⊢
    refine follows_step h nofun nofun fun a e ha hae => ?_
    rw [stepWrites, ha]
    exact ⟨hae.enters (f := fun a => a.setPhase .data) (by constructor <;> simp) (setDatw_appendsOnly 0#33) (fun _ _ _ => rfl)
      rfl, hae.bitcnt.trans hcnt, hae.datw.trans hdatw⟩
  · rw [if_neg ht] at h ⊢
    exact follows_done ⟨⟨h.phase, h.tracks.later h.tracks.veiled rfl rfl rfl le_rfl, h.meets⟩, hcnt, hdatw⟩

/-- DATA and one data bit of DISPATCH. -/
theorem follows_dataSample (h : DataAt k s d) (hk : k ≠ 33) : Follows s (DataAt (k + 1)) (dataSample (decide (k = 0)) d) := by
  obtain ⟨henters, hcnt, hdatw⟩ := h
  rw [if_neg hk] at henters
  have hstep := follows_step (Q := DataAt (k + 1)) henters nofun nofun
    (g := fun a => subShift .datw a.dio.lvl ((noteStart (decide (k = 0)) a).setParpos a.clk.pos)) fun a e ha hae => ?_
  · rwa [henters.tracks.tt] at hstep
  have hcnt' : a.bitcnt = k := hae.bitcnt.trans hcnt
  rw [stepWrites, ha, hcnt']
  refine ⟨hae.enters (afterDataBit_appendsOnly _) (dataSampleWrites_appendsOnly _) (fun _ _ _ => ?_) ?_, ?_, ?_⟩
  · simp only [afterDataBit_eq, noteStart_eq]
    rfl
  · simp only [afterDataBit_eq, hcnt']
  · simp only [afterDataBit_eq, hcnt']
  · have hdatw' : a.datw = e.datw := by rw [hae.datw, hdatw, hae.datw_big]
    have hlvl : a.dio.lvl = e.dio.lvl := congrArg Cursor.lvl (congrArg State.dio hae.tracks.veiled :)
    simp only [afterDataBit_eq, noteStart_eq, hdatw', hlvl]
    rfl

theorem follows_datas (h : DataAt k s d) (hm : k + m = 33) :
    Follows s (DataAt 33) (forFrom (fun k => dataSample (decide (k = 0))) k m d) := by
  induction m generalizing k s d with
  | zero =>
    obtain rfl : k = 33 := hm
    exact follows_done h
  | succ m ih => exact (follows_dataSample h (by omega)).andThen fun u e _ hu => ih hu (by omega)

/-- DATA_CLOSE of a Write and the rest of DISPATCH. -/
theorem follows_dataClose_write (h : DataAt 33 s d) (ht : d.tt = .write) :
    Follows s (Enters .scan) ((advEdgeOp d).andThen (pureOp fun f => winClear (closeData .write f.datw f))) := by
  refine follows_step h.enters nofun nofun fun a e ha hae => ?_
  have htt : a.tt = .write := hae.tracks.tt.trans (hae.tt_big.trans ht)
  have hdatw : a.datw = d.datw := hae.datw.trans h.datw
  have hg : AppendsOnly fun f => winClear (closeData .write f.datw f) := by
    constructor <;> simp [closeData_eq, winClear_eq]
  rw [stepWrites, ha, htt]
  refine hae.enters (f := fun f => (winClear (closeData .write f.datw f)).setPhase .scan)
    (g := fun f => winClear (closeData .write f.datw f)) (hg.setPhase .scan) hg (fun _ _ _ => ?_) rfl
  simp only [closeData_eq, hdatw]
  rfl

/-- DATA_CLOSE of a Read and the data frame of DISPATCH. -/
theorem follows_dataClose_read (h : DataAt 33 s d) (ht : d.tt = .read) :
    Follows s (Enters .turn3) ((advEdgeOp d).andThen (pureOp fun f => closeData .read f.datw f)) := by
  refine follows_step h.enters nofun nofun fun a e ha hae => ?_
  have htt : a.tt = .read := hae.tracks.tt.trans (hae.tt_big.trans ht)
  have hdatw : a.datw = d.datw := hae.datw.trans h.datw
  have hg := appendsOnly_of_forall State.datw (closeData_appendsOnly .read)
  rw [stepWrites, ha, htt]
  refine hae.enters (f := fun f => (closeData .read f.datw f).setPhase .turn3) (g := fun f => closeData .read f.datw f)
    (hg.setPhase .turn3) hg (fun _ _ _ => ?_) rfl
  simp only [closeData_eq, hdatw]
  rfl

/-- TURN3 and the third turnaround of DISPATCH; the window is cleared after it in both. -/
theorem follows_turn3 (h : Enters .turn3 s d) : Follows s (Enters .scan) ((advTurnOp d).andThen (pureOp winClear)) := by
  refine follows_step h nofun nofun fun a e ha hae => ?_
  rw [stepWrites, ha]
  exact hae.enters (f := fun a => (winClear a).setPhase .scan) (winClear_appendsOnly.setPhase .scan) winClear_appendsOnly
    (fun _ _ _ => rfl) rfl

/-- The end of DISPATCH, with the window cleared after it. -/
theorem follows_dispatchEnd (h : DataAt 33 s d) :
    Follows s (Enters .scan)
      ((advEdgeOp d).andThen fun f => (turnIf .read (closeData f.tt f.datw f)).andThen (pureOp winClear)) := by
  cases ht : d.tt with
  | write =>
    have hsame : ((advEdgeOp d).andThen fun f => (turnIf .read (closeData f.tt f.datw f)).andThen (pureOp winClear)) =
        (advEdgeOp d).andThen (pureOp fun f => winClear (closeData .write f.datw f)) :=
      advEdgeOp_composite.andThen_congr fun c ms => by simp [turnIf, ht, pureOp, closeData_eq]
    rw [hsame]
    exact follows_dataClose_write h ht
  | read =>
    have hsame : ((advEdgeOp d).andThen fun f => (turnIf .read (closeData f.tt f.datw f)).andThen (pureOp winClear)) =
        ((advEdgeOp d).andThen (pureOp fun f => closeData .read f.datw f)).andThen fun e =>
          (advTurnOp e).andThen (pureOp winClear) := by
      rw [Ran.andThen_assoc]
      exact advEdgeOp_composite.andThen_congr fun c ms => by simp [turnIf, ht, pureOp, closeData_eq]
    rw [hsame]
    exact (follows_dataClose_read h ht).andThen fun u e _ hu => follows_turn3 hu

/-- DISPATCH in its parts, each a composite and then writes. -/
theorem dispatchOp_winClear_eq (d : State) :
    (dispatchOp d).andThen (pureOp winClear) =
      ((advTurnOp d).andThen (pureOp fun a => a.setAckw 0#3)).andThen fun a =>
      (forFrom (fun k => ackSample (decide (k = 0))) 0 3 a).andThen fun b =>
      ((advEdgeOp b).andThen (pureOp fun c => closeAck c.ackw c)).andThen fun c =>
      ((turnIf .write c).andThen (pureOp fun d => d.setDatw 0#33)).andThen fun e =>
      (forFrom (fun k => dataSample (decide (k = 0))) 0 33 e).andThen fun f =>
      (advEdgeOp f).andThen fun g => (turnIf .read (closeData g.tt g.datw g)).andThen (pureOp winClear) := by
  simp only [dispatchOp, Ran.andThen_assoc, pureOp, Ran.done_andThen]

/-- A transaction: the steps from TURN1 back to SCAN. -/
theorem follows_dispatchOp (h : Enters .turn1 s d) :
    Follows s (Enters .scan) ((dispatchOp d).andThen (pureOp winClear)) := by
  rw [dispatchOp_winClear_eq]
  exact (follows_turn1 h).andThen fun _ _ _ hack =>
    (follows_acks (k := 0) (m := 3) hack.1 hack.2 rfl).andThen fun _ _ _ hclose =>
    (follows_ackClose hclose).andThen fun _ _ _ hturn =>
    (follows_turn2 hturn.1 hturn.2.1 hturn.2.2).andThen fun _ _ _ hdata =>
    (follows_datas (k := 0) (m := 33) hdata rfl).andThen fun _ _ _ hend => follows_dispatchEnd hend

/-! A pass of DECODE. -/

theorem follows_resetClose (h : Enters .resetClose s d) :
    Follows s (Enters .scan) ((advEdgeOp d).andThen (pureOp fun b => closeReset (lowByte b) b)) := by
  refine follows_step h nofun nofun fun a e ha hae => ?_
  rw [stepWrites, ha]
  have hg := appendsOnly_of_forall lowByte closeReset_appendsOnly
  exact hae.enters (f := fun b => (closeReset (lowByte b) b).setPhase .scan) (g := fun b => closeReset (lowByte b) b)
    (hg.setPhase .scan) hg (fun _ _ _ => rfl) rfl

theorem follows_reqClose (h : Enters .reqClose s d) :
    Follows s (Enters .turn1) ((advEdgeOp d).andThen (pureOp fun b => closeRequest (lowByte b) b)) := by
  refine follows_step h nofun nofun fun a e ha hae => ?_
  rw [stepWrites, ha]
  have hg := appendsOnly_of_forall lowByte closeRequest_appendsOnly
  refine hae.enters (f := fun b => (closeRequest (lowByte b) b).setPhase .turn1)
    (g := fun b => closeRequest (lowByte b) b) (hg.setPhase .turn1) hg (fun _ _ _ => ?_) rfl
  simp only [closeRequest_eq]
  rfl

/-- What SCAN chose, followed to the next SCAN. -/
theorem follows_decodeMatched (h : Enters (scanChoice d) s d) : Follows s (Enters .scan) (decodeMatched d) := by
  unfold decodeMatched
  rcases scanChoice_cases d with ⟨hm, hchoice⟩ | ⟨hm, hq, hchoice⟩ | ⟨hm, hq, hchoice⟩
  · rw [if_pos hm]
    exact follows_resetClose (hchoice ▸ h)
  · rw [if_neg (by simp [hm]), if_pos hq]
    have hsplit : ((advEdgeOp d).andThen fun b => (dispatchOp (closeRequest (lowByte b) b)).andThen (pureOp winClear)) =
        ((advEdgeOp d).andThen (pureOp fun b => closeRequest (lowByte b) b)).andThen fun c =>
          (dispatchOp c).andThen (pureOp winClear) := by
      rw [Ran.andThen_assoc]
      rfl
    rw [hsplit]
    exact (follows_reqClose (hchoice ▸ h)).andThen fun _ _ _ hu => follows_dispatchOp hu
  · rw [if_neg (by simp [hm]), if_neg (by simp [hq])]
    exact follows_done (hchoice ▸ h)

theorem follows_scan (h : Enters .scan s d) (hstop : s.hostMoved.stopreq = false) :
    Follows s (fun u e => Enters (scanChoice e) u e) ((advMasterOp d).andThen (pureOp pushSample)) := by
  refine follows_step h nofun (fun _ => hstop) fun a e ha hae => ?_
  rw [stepWrites, ha]
  refine hae.enters afterScan_appendsOnly pushSample_appendsOnly (fun _ _ _ => rfl) ?_
  rw [afterScan_eq]
  have hpush : (pushSample a).veiled = (pushSample e).veiled := by
    rw [eq_masked_of_veiled hae.tracks.veiled]
    rfl
  exact scanChoice_congr (congrArg lowByte hpush :) (congrArg State.wcnt hpush :)

theorem follows_decodePass (h : Enters .scan s d) (hstop : s.hostMoved.stopreq = false) :
    Follows s (Enters .scan) (decodePass d) := by
  rw [decodePass_eq]
  exact (follows_scan h hstop).andThen fun _ _ _ hu => follows_decodeMatched hu

/-- The host's turn and then a SCAN step with STOPREQ set. -/
theorem step_stopped (hp : s.phase = .scan) (hstop : s.hostMoved.stopreq = true) : step s = .next (s.hostMoved.halt .stopped) := by
  rw [step_eq]
  exact execStep_stopped (by simpa using hp) hstop

/-- The loop of DECODE, by induction on its fuel, which is not used up. -/
theorem follows_decodeLoop {n : Nat} (h : Enters .scan s d) (hn : d.remaining < n) : Follows s EndsAs (decodeLoop n d) := by
  induction n generalizing s d with
  | zero => omega
  | succ n ih =>
    have hhost := h.tracks.host
    rw [decodeLoop]
    split
    · next hreq =>
      rw [hreq] at hhost
      exact ⟨1, _, run_one (step_stopped h.phase hhost), h.tracks.hostMoved_left.hostMoved_right.halt _⟩
    · next hreq =>
      rw [Bool.eq_false_of_not_eq_true hreq] at hhost
      have henters : Enters .scan s d.hostMoved := ⟨h.phase, h.tracks.hostMoved_right, by simpa [Meets] using h.meets⟩
      have hremaining : d.hostMoved.remaining = d.remaining := by simp [State.remaining]
      exact (follows_decodePass henters hhost).andThen fun u e he hu =>
        ih hu (by have := decodePass_remaining_lt he; omega)

end

/-- Settles O54: from a SCAN state in lockstep the run follows DECODE to its end. -/
theorem decodeEqualsIteratedSteps : Obligations.DecodeEqualsIteratedSteps := by
  intro s hs hp
  have hr : s.Running := by simp [hp]
  have henters : Enters .scan s s := ⟨hp, .refl s, hs.lockstep.running hr⟩
  obtain ⟨t, u, k, hout, hrun, hends⟩ := (follows_decodeLoop henters (Nat.lt_succ_self s.remaining)).outcome
  exact ⟨t, u, k, (runOp_running hr).trans hout, hrun, hends.1, hends.eq⟩

end Sys2Proof.Machine
end
